-- ==== Sys2Proof/Word.lean ====
section
/-! DEFINITION. The word types of the block: bytes, bus addresses, duty counts, channel indices
(00_scope.md R7, R10). -/
namespace Sys2Proof

/-- One byte: a chip register, or one byte of a bus transfer. -/
abbrev Byte := BitVec 8

/-- A 7-bit device address of the two-wire bus (20_memory.md R61). -/
abbrev BusAddr := BitVec 7

/-- A 12-bit duty-cycle count (00_scope.md R7, DUTY_BITS). -/
abbrev Duty := BitVec 12

/-- A channel index, 0 to 15 (00_scope.md R7, NCH). -/
abbrev Channel := Fin 16

/-- An IEEE 754 binary32 word (41_duty_mapper.md R181). -/
abbrev F32 := BitVec 32

/-- An IEEE 754 binary64 word (41_duty_mapper.md R181). -/
abbrev F64 := BitVec 64

end Sys2Proof
end

