-- ==== Sys2Proof/Config.lean ====
section
/-! DEFINITION. CFG, the record of the implementation's parameters (00_scope.md R8), the constants the
source fixes (R7), and the free values. -/
namespace Sys2Proof

/-- OSC_HZ, the chip's oscillator in hertz (00_scope.md R7). -/
abbrev oscHz : Nat := 25000000

/-- PWM_COUNTS, the counts of one PWM period (00_scope.md R7). -/
abbrev pwmCounts : Nat := 4096

/-- One entry of the calibration table CAL (10_state.md R22). -/
structure CalEntry where
  minCount : Duty
  maxCount : Duty
  invert : Bool
deriving DecidableEq, Repr

/-- EDGE_OFFSET, the offset of each edge register inside a channel's four (00_scope.md R8, D4). -/
structure EdgeOffsets where
  onL : BitVec 2
  onH : BitVec 2
  offL : BitVec 2
  offH : BitVec 2
deriving DecidableEq, Repr

/-- CAL_POLICY, when the loop runs the calibration handshake (00_scope.md R8, D23). -/
inductive CalPolicy where
  | atStartup
  | onFirstMotorWrite
  | manual
deriving DecidableEq, Repr

/-- The five fixed waits and the wait for the next tick boundary (00_scope.md R7, 60_exceptions.md R285). -/
inductive Wait where
  /-- T_SETTLE, after the broadcast reset. -/
  | settle
  /-- T_WAKE, after the write that clears the low-power bit. -/
  | wake
  /-- T_HOLD, the hold of the setting line in T1 of the handshake. -/
  | hold
  /-- T_PULSE, the high time of a setting-line pulse. -/
  | pulse
  /-- T_LEARN, after a setting-line pulse. -/
  | learn
  /-- Until the next tick boundary, TICK_PERIOD apart. -/
  | tick
deriving DecidableEq, Repr

/-- CFG (00_scope.md R8). ROUND, DCM_ARITH, ERR_CODE and EXIT_CODE of R8's table are fixed by the spec's
decisions D7, D15, D31 and D33 and are no fields (log 36, log 38). -/
structure Config where
  devAddr : BusAddr
  swrstAddr : BusAddr
  swrstByte : Byte
  chBase : Byte
  edgeOffset : EdgeOffsets
  m1SleepMask : Byte
  m1RestartMask : Byte
  m1AarMask : Byte
  m1Wake : Byte
  m1Run : Byte
  m2Init : Byte
  freqHz : Nat
  /-- BUS_PATH, an opaque name (D13, log 32). -/
  busPath : String
  motorCh : Channel
  requiresHandshake : Bool
  powerLinePresent : Bool
  gpioTransient : Bool
  calPolicy : CalPolicy
  sensorConfigured : Bool
  minClearance : F64
  /-- TICK_PERIOD in nanoseconds (D39); no bound is put on it (log 39). -/
  tickPeriod : Nat
  cal : Vector CalEntry 16
  /-- SNAP_LAYOUT, an opaque name; the model's interface is the record (D19, log 32). -/
  snapLayout : String
deriving DecidableEq, Repr

/-- The configuration that stands for "the loaded configuration" of 70_reset_and_hazards.md R311: R8's
defaults, and for the parameters R8 leaves OPEN the values of VCFG in 95_test_vectors.md, but for BUS_PATH and
SNAP_LAYOUT, of which VCFG holds neither: the names "bus" and "record" are the model's (log 1, log 32).
DESIGN CHOICE and PRESUMED, unsafe (log 1, log 2). -/
def Config.initial : Config where
  devAddr := 0x40#7
  swrstAddr := 0x00#7
  swrstByte := 0x06#8
  chBase := 0x06#8
  edgeOffset := { onL := 0, onH := 1, offL := 2, offH := 3 }
  m1SleepMask := 0x10#8
  m1RestartMask := 0x80#8
  m1AarMask := 0x21#8
  m1Wake := 0x00#8
  m1Run := 0xA1#8
  m2Init := 0x04#8
  freqHz := 50
  busPath := "bus"
  motorCh := 0
  requiresHandshake := true
  powerLinePresent := false
  gpioTransient := true
  calPolicy := .atStartup
  sensorConfigured := true
  minClearance := 0x403E000000000000#64
  tickPeriod := 20000000
  cal := #v[⟨100, 420, false⟩, ⟨100, 420, true⟩, ⟨100, 421, false⟩, ⟨0, 4095, false⟩,
    ⟨150, 600, false⟩, ⟨150, 600, false⟩, ⟨150, 600, false⟩, ⟨150, 600, false⟩,
    ⟨150, 600, false⟩, ⟨150, 600, false⟩, ⟨150, 600, false⟩, ⟨150, 600, false⟩,
    ⟨150, 600, false⟩, ⟨150, 600, false⟩, ⟨150, 600, false⟩, ⟨150, 600, false⟩]
  snapLayout := "record"

/-- FREE VALUE. The byte the chip holds in a register that nothing has written since its last SWRST, by the
number of that SWRST (0 for power-on) and the register address: "drawn per register per reset"
(93_implementation_defined.md U5; 20_memory.md R72, 70_reset_and_hazards.md R312; log 8). -/
opaque Config.chipDraw : Nat → Byte → Byte

end Sys2Proof
end

