-- ==== Sys2Proof/Syntax.lean ====
section
/-! DEFINITION. The instructions: one constructor per row of spec/opcode_table.json, in the table's order:
the 136 bus frames of 30_encoding.md R106 and the ten operations of R110. A byte the table gives as
fixed is no operand. -/
namespace Sys2Proof

/-- The four edge registers of a channel (10_state.md R36). -/
inductive Edge where
  | onL
  | onH
  | offL
  | offH
deriving DecidableEq, Repr

/-- What a host puts before the block: a byte written to CMD (30_encoding.md R109), or the write transfer
that begins one bus frame (R100 to R103; log 15). -/
inductive PortWord where
  | cmd (code : Byte)
  | frame (addr : BusAddr) (bytes : List Byte)
deriving DecidableEq, Repr

/-- The instructions, one per row of the opcode table. -/
inductive Instr where
  /-- SWRST -/
  | swrst
  /-- WR.PRESCALE -/
  | wrPrescale (prescale : Byte)
  /-- WR.MODE1.WAKE -/
  | wrMode1Wake
  /-- WR.MODE1.RUN -/
  | wrMode1Run
  /-- WR.MODE2 -/
  | wrMode2
  /-- WR.CH0.ON_L -/
  | wrCh0OnL
  /-- WR.CH0.ON_H -/
  | wrCh0OnH
  /-- WR.CH0.OFF_L -/
  | wrCh0OffL (dLo : Byte)
  /-- WR.CH0.OFF_H -/
  | wrCh0OffH (dHi : BitVec 4)
  /-- WR.CH1.ON_L -/
  | wrCh1OnL
  /-- WR.CH1.ON_H -/
  | wrCh1OnH
  /-- WR.CH1.OFF_L -/
  | wrCh1OffL (dLo : Byte)
  /-- WR.CH1.OFF_H -/
  | wrCh1OffH (dHi : BitVec 4)
  /-- WR.CH2.ON_L -/
  | wrCh2OnL
  /-- WR.CH2.ON_H -/
  | wrCh2OnH
  /-- WR.CH2.OFF_L -/
  | wrCh2OffL (dLo : Byte)
  /-- WR.CH2.OFF_H -/
  | wrCh2OffH (dHi : BitVec 4)
  /-- WR.CH3.ON_L -/
  | wrCh3OnL
  /-- WR.CH3.ON_H -/
  | wrCh3OnH
  /-- WR.CH3.OFF_L -/
  | wrCh3OffL (dLo : Byte)
  /-- WR.CH3.OFF_H -/
  | wrCh3OffH (dHi : BitVec 4)
  /-- WR.CH4.ON_L -/
  | wrCh4OnL
  /-- WR.CH4.ON_H -/
  | wrCh4OnH
  /-- WR.CH4.OFF_L -/
  | wrCh4OffL (dLo : Byte)
  /-- WR.CH4.OFF_H -/
  | wrCh4OffH (dHi : BitVec 4)
  /-- WR.CH5.ON_L -/
  | wrCh5OnL
  /-- WR.CH5.ON_H -/
  | wrCh5OnH
  /-- WR.CH5.OFF_L -/
  | wrCh5OffL (dLo : Byte)
  /-- WR.CH5.OFF_H -/
  | wrCh5OffH (dHi : BitVec 4)
  /-- WR.CH6.ON_L -/
  | wrCh6OnL
  /-- WR.CH6.ON_H -/
  | wrCh6OnH
  /-- WR.CH6.OFF_L -/
  | wrCh6OffL (dLo : Byte)
  /-- WR.CH6.OFF_H -/
  | wrCh6OffH (dHi : BitVec 4)
  /-- WR.CH7.ON_L -/
  | wrCh7OnL
  /-- WR.CH7.ON_H -/
  | wrCh7OnH
  /-- WR.CH7.OFF_L -/
  | wrCh7OffL (dLo : Byte)
  /-- WR.CH7.OFF_H -/
  | wrCh7OffH (dHi : BitVec 4)
  /-- WR.CH8.ON_L -/
  | wrCh8OnL
  /-- WR.CH8.ON_H -/
  | wrCh8OnH
  /-- WR.CH8.OFF_L -/
  | wrCh8OffL (dLo : Byte)
  /-- WR.CH8.OFF_H -/
  | wrCh8OffH (dHi : BitVec 4)
  /-- WR.CH9.ON_L -/
  | wrCh9OnL
  /-- WR.CH9.ON_H -/
  | wrCh9OnH
  /-- WR.CH9.OFF_L -/
  | wrCh9OffL (dLo : Byte)
  /-- WR.CH9.OFF_H -/
  | wrCh9OffH (dHi : BitVec 4)
  /-- WR.CH10.ON_L -/
  | wrCh10OnL
  /-- WR.CH10.ON_H -/
  | wrCh10OnH
  /-- WR.CH10.OFF_L -/
  | wrCh10OffL (dLo : Byte)
  /-- WR.CH10.OFF_H -/
  | wrCh10OffH (dHi : BitVec 4)
  /-- WR.CH11.ON_L -/
  | wrCh11OnL
  /-- WR.CH11.ON_H -/
  | wrCh11OnH
  /-- WR.CH11.OFF_L -/
  | wrCh11OffL (dLo : Byte)
  /-- WR.CH11.OFF_H -/
  | wrCh11OffH (dHi : BitVec 4)
  /-- WR.CH12.ON_L -/
  | wrCh12OnL
  /-- WR.CH12.ON_H -/
  | wrCh12OnH
  /-- WR.CH12.OFF_L -/
  | wrCh12OffL (dLo : Byte)
  /-- WR.CH12.OFF_H -/
  | wrCh12OffH (dHi : BitVec 4)
  /-- WR.CH13.ON_L -/
  | wrCh13OnL
  /-- WR.CH13.ON_H -/
  | wrCh13OnH
  /-- WR.CH13.OFF_L -/
  | wrCh13OffL (dLo : Byte)
  /-- WR.CH13.OFF_H -/
  | wrCh13OffH (dHi : BitVec 4)
  /-- WR.CH14.ON_L -/
  | wrCh14OnL
  /-- WR.CH14.ON_H -/
  | wrCh14OnH
  /-- WR.CH14.OFF_L -/
  | wrCh14OffL (dLo : Byte)
  /-- WR.CH14.OFF_H -/
  | wrCh14OffH (dHi : BitVec 4)
  /-- WR.CH15.ON_L -/
  | wrCh15OnL
  /-- WR.CH15.ON_H -/
  | wrCh15OnH
  /-- WR.CH15.OFF_L -/
  | wrCh15OffL (dLo : Byte)
  /-- WR.CH15.OFF_H -/
  | wrCh15OffH (dHi : BitVec 4)
  /-- RD.MODE1 -/
  | rdMode1
  /-- RD.MODE2 -/
  | rdMode2
  /-- RD.PRESCALE -/
  | rdPrescale
  /-- RD.CH0.ON_L -/
  | rdCh0OnL
  /-- RD.CH0.ON_H -/
  | rdCh0OnH
  /-- RD.CH0.OFF_L -/
  | rdCh0OffL
  /-- RD.CH0.OFF_H -/
  | rdCh0OffH
  /-- RD.CH1.ON_L -/
  | rdCh1OnL
  /-- RD.CH1.ON_H -/
  | rdCh1OnH
  /-- RD.CH1.OFF_L -/
  | rdCh1OffL
  /-- RD.CH1.OFF_H -/
  | rdCh1OffH
  /-- RD.CH2.ON_L -/
  | rdCh2OnL
  /-- RD.CH2.ON_H -/
  | rdCh2OnH
  /-- RD.CH2.OFF_L -/
  | rdCh2OffL
  /-- RD.CH2.OFF_H -/
  | rdCh2OffH
  /-- RD.CH3.ON_L -/
  | rdCh3OnL
  /-- RD.CH3.ON_H -/
  | rdCh3OnH
  /-- RD.CH3.OFF_L -/
  | rdCh3OffL
  /-- RD.CH3.OFF_H -/
  | rdCh3OffH
  /-- RD.CH4.ON_L -/
  | rdCh4OnL
  /-- RD.CH4.ON_H -/
  | rdCh4OnH
  /-- RD.CH4.OFF_L -/
  | rdCh4OffL
  /-- RD.CH4.OFF_H -/
  | rdCh4OffH
  /-- RD.CH5.ON_L -/
  | rdCh5OnL
  /-- RD.CH5.ON_H -/
  | rdCh5OnH
  /-- RD.CH5.OFF_L -/
  | rdCh5OffL
  /-- RD.CH5.OFF_H -/
  | rdCh5OffH
  /-- RD.CH6.ON_L -/
  | rdCh6OnL
  /-- RD.CH6.ON_H -/
  | rdCh6OnH
  /-- RD.CH6.OFF_L -/
  | rdCh6OffL
  /-- RD.CH6.OFF_H -/
  | rdCh6OffH
  /-- RD.CH7.ON_L -/
  | rdCh7OnL
  /-- RD.CH7.ON_H -/
  | rdCh7OnH
  /-- RD.CH7.OFF_L -/
  | rdCh7OffL
  /-- RD.CH7.OFF_H -/
  | rdCh7OffH
  /-- RD.CH8.ON_L -/
  | rdCh8OnL
  /-- RD.CH8.ON_H -/
  | rdCh8OnH
  /-- RD.CH8.OFF_L -/
  | rdCh8OffL
  /-- RD.CH8.OFF_H -/
  | rdCh8OffH
  /-- RD.CH9.ON_L -/
  | rdCh9OnL
  /-- RD.CH9.ON_H -/
  | rdCh9OnH
  /-- RD.CH9.OFF_L -/
  | rdCh9OffL
  /-- RD.CH9.OFF_H -/
  | rdCh9OffH
  /-- RD.CH10.ON_L -/
  | rdCh10OnL
  /-- RD.CH10.ON_H -/
  | rdCh10OnH
  /-- RD.CH10.OFF_L -/
  | rdCh10OffL
  /-- RD.CH10.OFF_H -/
  | rdCh10OffH
  /-- RD.CH11.ON_L -/
  | rdCh11OnL
  /-- RD.CH11.ON_H -/
  | rdCh11OnH
  /-- RD.CH11.OFF_L -/
  | rdCh11OffL
  /-- RD.CH11.OFF_H -/
  | rdCh11OffH
  /-- RD.CH12.ON_L -/
  | rdCh12OnL
  /-- RD.CH12.ON_H -/
  | rdCh12OnH
  /-- RD.CH12.OFF_L -/
  | rdCh12OffL
  /-- RD.CH12.OFF_H -/
  | rdCh12OffH
  /-- RD.CH13.ON_L -/
  | rdCh13OnL
  /-- RD.CH13.ON_H -/
  | rdCh13OnH
  /-- RD.CH13.OFF_L -/
  | rdCh13OffL
  /-- RD.CH13.OFF_H -/
  | rdCh13OffH
  /-- RD.CH14.ON_L -/
  | rdCh14OnL
  /-- RD.CH14.ON_H -/
  | rdCh14OnH
  /-- RD.CH14.OFF_L -/
  | rdCh14OffL
  /-- RD.CH14.OFF_H -/
  | rdCh14OffH
  /-- RD.CH15.ON_L -/
  | rdCh15OnL
  /-- RD.CH15.ON_H -/
  | rdCh15OnH
  /-- RD.CH15.OFF_L -/
  | rdCh15OffL
  /-- RD.CH15.OFF_H -/
  | rdCh15OffH
  /-- OPEN -/
  | opOpen
  /-- RESET -/
  | opReset
  /-- WRCH -/
  | opWrch
  /-- RDALL -/
  | opRdall
  /-- PRESC -/
  | opPresc
  /-- MAP -/
  | opMap
  /-- CAL -/
  | opCal
  /-- TICK -/
  | opTick
  /-- RUN -/
  | opRun
  /-- SHUTDOWN -/
  | opShutdown
deriving DecidableEq, Repr

end Sys2Proof
end

