-- ==== Sys2Proof/Machine/Operands.lean ====
section
/-! DEFINITION. The operand forms: the floating-point words, the rounding, the prescale and duty
computations, the register address and the data bytes of a channel's edge registers, the info word of an
error. -/
namespace Sys2Proof.Machine

/-- `round` of 00_scope.md R10 applied to the quotient `num / den` of naturals: the nearest integer, a
tie going up, which is away from zero (D7, D15). -/
def roundQuot (num den : Nat) : Nat := (2 * num + den) / (2 * den)

/-- The prescale of 40_register_protocol.md R141 for `freq` hertz; `none` where PRESC raises
OutOfRangeError: for 0 Hz, and where `round(q) - 1` lies outside 0 to 255. -/
def prescaleOf (freq : Nat) : Option Byte :=
  if freq = 0 then none
  else
    let q := roundQuot oscHz (pwmCounts * freq)
    if 1 ≤ q ∧ q ≤ 256 then some (BitVec.ofNat 8 (q - 1)) else none

/-- What a floating-point word denotes (41_duty_mapper.md R181): a finite value is `num` units, the unit
being 2^(-149) for binary32 and 2^(-1074) for binary64. -/
inductive FloatValue where
  | nan
  | infinite (negative : Bool)
  | finite (num : Int)
deriving DecidableEq, Repr

/-- The value of a sign, an exponent and a fraction field of a format with `eMax` as the all-ones
exponent and `fBits` fraction bits (41_duty_mapper.md R181). -/
def floatValue (negative : Bool) (e m eMax fBits : Nat) : FloatValue :=
  if e = eMax then
    if m = 0 then .infinite negative else .nan
  else
    let magnitude : Nat := if e = 0 then m else (2 ^ fBits + m) * 2 ^ (e - 1)
    .finite (if negative then -(magnitude : Int) else (magnitude : Int))

/-- Decoding of an `f32` word (41_duty_mapper.md R181), in units of 2^(-149). -/
def f32Value (w : F32) : FloatValue :=
  floatValue (w.getLsbD 31) (w.extractLsb' 23 8).toNat (w.extractLsb' 0 23).toNat 255 23

/-- Decoding of an `f64` word (41_duty_mapper.md R181), in units of 2^(-1074). -/
def f64Value (w : F64) : FloatValue :=
  floatValue (w.getLsbD 63) (w.extractLsb' 52 11).toNat (w.extractLsb' 0 52).toNat 2047 52

/-- 1.0 in the units of `f32Value`. -/
abbrev f32One : Nat := 2 ^ 149

/-- NEUTRAL, 0.5, as an `f32` word (00_scope.md R7, 41_duty_mapper.md R181). -/
abbrev neutralWord : F32 := 0x3F000000#32

/-- 1.0 as an `f32` word (41_duty_mapper.md R181). -/
abbrev oneWord : F32 := 0x3F800000#32

/-- 0.0 as an `f32` word (41_duty_mapper.md R181). -/
abbrev zeroWord : F32 := 0x00000000#32

/-- The count of 41_duty_mapper.md R182 for a fraction of `x` units with `x ≤ f32One`: exact arithmetic,
one rounding (R184). -/
def mapCount (entry : CalEntry) (x : Nat) : Nat :=
  let e := if entry.invert then f32One - x else x
  let span := entry.maxCount.toNat - entry.minCount.toNat
  entry.minCount.toNat + roundQuot (span * e) f32One

/-- The fraction of a word accepted by MAP's range check (41_duty_mapper.md R183), in units of 2^(-149);
`none` for a NaN, an infinity and a value outside [0,1]. -/
def fractionOf (w : F32) : Option Nat :=
  match f32Value w with
  | .finite x => if 0 ≤ x ∧ x ≤ (f32One : Int) then some x.toNat else none
  | .infinite _ => none
  | .nan => none

/-- MAP of one table entry and one word (41_duty_mapper.md R182); `none` where the fraction is rejected. -/
def mapDuty (entry : CalEntry) (w : F32) : Option Duty :=
  match fractionOf w with
  | some x => some (BitVec.ofNat 12 (mapCount entry x))
  | none => none

/-- EDGE_OFFSET[X] (00_scope.md R8). -/
def edgeOffsetOf (o : EdgeOffsets) : Edge → BitVec 2
  | .onL => o.onL
  | .onH => o.onH
  | .offL => o.offL
  | .offH => o.offH

/-- `addr(c, X)` of 20_memory.md R67. -/
def edgeAddr (cfg : Config) (c : Channel) (x : Edge) : Byte :=
  BitVec.ofNat 8 (cfg.chBase.toNat + 4 * c.val + (edgeOffsetOf cfg.edgeOffset x).toNat)

/-- The data byte of CHc_OFF_H: `0b0000 ++ d[11:8]` (30_encoding.md R104). -/
def offHighByte (hi : BitVec 4) : Byte := 0#4 ++ hi

/-- The data bytes of the four edge registers for the duty count `d` (30_encoding.md R104). -/
def edgeData (d : Duty) : Edge → Byte
  | .onL => 0x00#8
  | .onH => 0x00#8
  | .offL => d.extractLsb' 0 8
  | .offH => offHighByte (d.extractLsb' 8 4)

/-- Register addresses the source fixes (00_scope.md R7). -/
abbrev regMode1 : Byte := 0x00#8
abbrev regMode2 : Byte := 0x01#8
abbrev regPrescale : Byte := 0xFE#8

/-- The sixteen channels in ascending order (43_control_loop.md R237). -/
def channels : List Channel := [0, 1, 2, 3, 4, 5, 6, 7, 8, 9, 10, 11, 12, 13, 14, 15]

/-- The four edge registers in the fixed write order (40_register_protocol.md R144, R149). -/
def edgeOrder : List Edge := [.onL, .onH, .offL, .offH]

/-- The 67 register addresses RDALL reads, in its order (40_register_protocol.md R145). -/
def readAllOrder (cfg : Config) : List Byte :=
  [regMode1, regMode2, regPrescale] ++ channels.flatMap fun c => edgeOrder.map (edgeAddr cfg c)

/-- The `info` word of an error: sub-code in bits 15:8, detail in bits 7:0 (60_exceptions.md R271). -/
def infoWord (subCode detail : Byte) : BitVec 16 := subCode ++ detail

/-- The lower bound of a wait in nanoseconds (00_scope.md R7, 70_reset_and_hazards.md R331). No rule of
the model depends on it (log 31). -/
def waitNanoseconds (cfg : Config) : Wait → Nat
  | .settle => 4200
  | .wake => 500000
  | .hold => 3000000000
  | .pulse => 500000000
  | .learn => 1000000000
  | .tick => cfg.tickPeriod

end Sys2Proof.Machine
end

