-- ==== Sys2Proof/WellFormed.lean ====
section
/-! DEFINITION. Well-formedness: of a configuration (00_scope.md R9), check by check, and of an
instruction under a configuration. -/
namespace Sys2Proof

/-- The constraints of 00_scope.md R8 and R9 that a configuration can violate. -/
inductive ConfigError where
  /-- DEV_ADDR equals SWRST_ADDR. -/
  | sameAddresses
  /-- CH_BASE outside 0x06 to 0xBE. -/
  | channelBase
  /-- EDGE_OFFSET is not a bijection. -/
  | edgeOffsets
  /-- M1_SLEEP_MASK is not one bit. -/
  | sleepMask
  /-- M1_RESTART_MASK is not one bit other than the sleep bit. -/
  | restartMask
  /-- M1_AAR_MASK meets the sleep or the restart mask. -/
  | aarMask
  /-- M1_WAKE has the sleep bit set. -/
  | wakeByte
  /-- M1_RUN is not M1_WAKE or M1_RESTART_MASK or M1_AAR_MASK. -/
  | runByte
  /-- The prescale of FREQ_HZ does not lie in 0 to 255. -/
  | frequency
  /-- MIN_CLEARANCE is a NaN. -/
  | clearance
  /-- A CAL entry with min_count ≥ max_count. -/
  | calTable
deriving DecidableEq, Repr

/-- A mask of exactly one bit. -/
def oneBit (m : Byte) : Bool := (List.range 8).any fun k => m == BitVec.ofNat 8 (2 ^ k)

/-- The constraints of R8's table that can be violated, each with its answer, in the table's order.
DESIGN CHOICE: TICK_PERIOD's "on the order of 10–100 ms depending on deployment" gives no bound, and no
check is made of it: every period is admitted, 0 included (log 39). -/
def Config.checks (cfg : Config) : List (ConfigError × Bool) :=
  let o := cfg.edgeOffset
  [(.sameAddresses, cfg.devAddr != cfg.swrstAddr),
   (.channelBase, decide (0x06 ≤ cfg.chBase.toNat ∧ cfg.chBase.toNat ≤ 0xBE)),
   (.edgeOffsets, o.onL != o.onH && o.onL != o.offL && o.onL != o.offH &&
      o.onH != o.offL && o.onH != o.offH && o.offL != o.offH),
   (.sleepMask, oneBit cfg.m1SleepMask),
   (.restartMask, oneBit cfg.m1RestartMask && cfg.m1RestartMask != cfg.m1SleepMask),
   (.aarMask, cfg.m1AarMask &&& (cfg.m1SleepMask ||| cfg.m1RestartMask) == 0#8),
   (.wakeByte, cfg.m1Wake &&& cfg.m1SleepMask == 0#8),
   (.runByte, cfg.m1Run == (cfg.m1Wake ||| cfg.m1RestartMask ||| cfg.m1AarMask)),
   (.frequency, (Machine.prescaleOf cfg.freqHz).isSome),
   (.clearance, Machine.f64Value cfg.minClearance != .nan),
   (.calTable, cfg.cal.toList.all fun e => decide (e.minCount.toNat < e.maxCount.toNat))]

/-- The constraints a configuration violates, by name. -/
def Config.violations (cfg : Config) : List ConfigError :=
  (cfg.checks.filter fun p => !p.2).map (·.1)

/-- CFG is well formed (00_scope.md R9). -/
def Config.wf (cfg : Config) : Bool := cfg.checks.all (·.2)

/-- An instruction is well formed under a configuration when its words name it alone. The two MODE1
writes "are told apart only by their `data`" (30_encoding.md R106), so WR.MODE1.RUN is not where the two
bytes are equal (log 28). -/
def Instr.wellFormed (cfg : Config) (i : Instr) : Bool :=
  i != .wrMode1Run || cfg.m1Run != cfg.m1Wake

end Sys2Proof
end

