-- ==== Sys2Proof/Decode.lean ====
section
/-! DEFINITION. The decoder (30_encoding.md R107, R110, R112), total and rejecting by name, the encoder
(R100 to R106) and the reading of read-back bytes (R108). -/
namespace Sys2Proof

open Machine

/-- Why a word is no instruction of the block. -/
inductive DecodeError where
  /-- CMD[3:0] = 0x0 or 0xB to 0xF, or CMD[7:4] not 0 (30_encoding.md R112). -/
  | reservedCommand
  /-- A transfer that is none of R107's three kinds. -/
  | notAFrame
  /-- A write of MODE1 or MODE2 with a byte the block never sends (R106). -/
  | modeByte
  /-- A write of an ON edge register with a byte other than 0 (R104). -/
  | onEdgeNotZero
  /-- A write of an OFF_H register with a reserved bit set (R104). -/
  | reservedHighBits
  /-- A frame for a register the block never accesses (10_state.md R37, 20_memory.md R73). -/
  | registerNotAccessed
deriving DecidableEq, Repr

/-- The name of a register address (30_encoding.md R107). -/
inductive RegName where
  | mode1
  | mode2
  | subadr1
  | subadr2
  | subadr3
  | allCallAdr
  | edge (c : Channel) (x : Edge)
  | prescale
  | testMode
  | unnamed
deriving DecidableEq, Repr

/-- The edge register at an offset inside a channel's four (30_encoding.md R107). -/
def edgeAtOffset (o : EdgeOffsets) (k : BitVec 2) : Option Edge :=
  if o.onL = k then some .onL
  else if o.onH = k then some .onH
  else if o.offL = k then some .offL
  else if o.offH = k then some .offH
  else none

/-- Decoding of a register address, total on all 256 values (30_encoding.md R107). -/
def decodeReg (cfg : Config) (r : Byte) : RegName :=
  if r = 0x00#8 then .mode1
  else if r = 0x01#8 then .mode2
  else if r = 0x02#8 then .subadr1
  else if r = 0x03#8 then .subadr2
  else if r = 0x04#8 then .subadr3
  else if r = 0x05#8 then .allCallAdr
  else if cfg.chBase.toNat ≤ r.toNat ∧ r.toNat ≤ cfg.chBase.toNat + 63 then
    let k := r.toNat - cfg.chBase.toNat
    match edgeAtOffset cfg.edgeOffset (BitVec.ofNat 2 (k % 4)) with
    | some x => .edge (Fin.ofNat 16 (k / 4)) x
    | none => .unnamed
  else if r = 0xFE#8 then .prescale
  else if r = 0xFF#8 then .testMode
  else .unnamed

/-- The row WR.CHc.ON_L of a channel (30_encoding.md R106). -/
def wrOnL (c : Channel) : Instr :=
  match c.val with
  | 0 => .wrCh0OnL
  | 1 => .wrCh1OnL
  | 2 => .wrCh2OnL
  | 3 => .wrCh3OnL
  | 4 => .wrCh4OnL
  | 5 => .wrCh5OnL
  | 6 => .wrCh6OnL
  | 7 => .wrCh7OnL
  | 8 => .wrCh8OnL
  | 9 => .wrCh9OnL
  | 10 => .wrCh10OnL
  | 11 => .wrCh11OnL
  | 12 => .wrCh12OnL
  | 13 => .wrCh13OnL
  | 14 => .wrCh14OnL
  | _ => .wrCh15OnL

/-- The row WR.CHc.ON_H of a channel (30_encoding.md R106). -/
def wrOnH (c : Channel) : Instr :=
  match c.val with
  | 0 => .wrCh0OnH
  | 1 => .wrCh1OnH
  | 2 => .wrCh2OnH
  | 3 => .wrCh3OnH
  | 4 => .wrCh4OnH
  | 5 => .wrCh5OnH
  | 6 => .wrCh6OnH
  | 7 => .wrCh7OnH
  | 8 => .wrCh8OnH
  | 9 => .wrCh9OnH
  | 10 => .wrCh10OnH
  | 11 => .wrCh11OnH
  | 12 => .wrCh12OnH
  | 13 => .wrCh13OnH
  | 14 => .wrCh14OnH
  | _ => .wrCh15OnH

/-- The row WR.CHc.OFF_L of a channel (30_encoding.md R106). -/
def wrOffL (c : Channel) (dLo : Byte) : Instr :=
  match c.val with
  | 0 => .wrCh0OffL dLo
  | 1 => .wrCh1OffL dLo
  | 2 => .wrCh2OffL dLo
  | 3 => .wrCh3OffL dLo
  | 4 => .wrCh4OffL dLo
  | 5 => .wrCh5OffL dLo
  | 6 => .wrCh6OffL dLo
  | 7 => .wrCh7OffL dLo
  | 8 => .wrCh8OffL dLo
  | 9 => .wrCh9OffL dLo
  | 10 => .wrCh10OffL dLo
  | 11 => .wrCh11OffL dLo
  | 12 => .wrCh12OffL dLo
  | 13 => .wrCh13OffL dLo
  | 14 => .wrCh14OffL dLo
  | _ => .wrCh15OffL dLo

/-- The row WR.CHc.OFF_H of a channel (30_encoding.md R106). -/
def wrOffH (c : Channel) (dHi : BitVec 4) : Instr :=
  match c.val with
  | 0 => .wrCh0OffH dHi
  | 1 => .wrCh1OffH dHi
  | 2 => .wrCh2OffH dHi
  | 3 => .wrCh3OffH dHi
  | 4 => .wrCh4OffH dHi
  | 5 => .wrCh5OffH dHi
  | 6 => .wrCh6OffH dHi
  | 7 => .wrCh7OffH dHi
  | 8 => .wrCh8OffH dHi
  | 9 => .wrCh9OffH dHi
  | 10 => .wrCh10OffH dHi
  | 11 => .wrCh11OffH dHi
  | 12 => .wrCh12OffH dHi
  | 13 => .wrCh13OffH dHi
  | 14 => .wrCh14OffH dHi
  | _ => .wrCh15OffH dHi

/-- The row RD.CHc.ON_L of a channel (30_encoding.md R106). -/
def rdOnL (c : Channel) : Instr :=
  match c.val with
  | 0 => .rdCh0OnL
  | 1 => .rdCh1OnL
  | 2 => .rdCh2OnL
  | 3 => .rdCh3OnL
  | 4 => .rdCh4OnL
  | 5 => .rdCh5OnL
  | 6 => .rdCh6OnL
  | 7 => .rdCh7OnL
  | 8 => .rdCh8OnL
  | 9 => .rdCh9OnL
  | 10 => .rdCh10OnL
  | 11 => .rdCh11OnL
  | 12 => .rdCh12OnL
  | 13 => .rdCh13OnL
  | 14 => .rdCh14OnL
  | _ => .rdCh15OnL

/-- The row RD.CHc.ON_H of a channel (30_encoding.md R106). -/
def rdOnH (c : Channel) : Instr :=
  match c.val with
  | 0 => .rdCh0OnH
  | 1 => .rdCh1OnH
  | 2 => .rdCh2OnH
  | 3 => .rdCh3OnH
  | 4 => .rdCh4OnH
  | 5 => .rdCh5OnH
  | 6 => .rdCh6OnH
  | 7 => .rdCh7OnH
  | 8 => .rdCh8OnH
  | 9 => .rdCh9OnH
  | 10 => .rdCh10OnH
  | 11 => .rdCh11OnH
  | 12 => .rdCh12OnH
  | 13 => .rdCh13OnH
  | 14 => .rdCh14OnH
  | _ => .rdCh15OnH

/-- The row RD.CHc.OFF_L of a channel (30_encoding.md R106). -/
def rdOffL (c : Channel) : Instr :=
  match c.val with
  | 0 => .rdCh0OffL
  | 1 => .rdCh1OffL
  | 2 => .rdCh2OffL
  | 3 => .rdCh3OffL
  | 4 => .rdCh4OffL
  | 5 => .rdCh5OffL
  | 6 => .rdCh6OffL
  | 7 => .rdCh7OffL
  | 8 => .rdCh8OffL
  | 9 => .rdCh9OffL
  | 10 => .rdCh10OffL
  | 11 => .rdCh11OffL
  | 12 => .rdCh12OffL
  | 13 => .rdCh13OffL
  | 14 => .rdCh14OffL
  | _ => .rdCh15OffL

/-- The row RD.CHc.OFF_H of a channel (30_encoding.md R106). -/
def rdOffH (c : Channel) : Instr :=
  match c.val with
  | 0 => .rdCh0OffH
  | 1 => .rdCh1OffH
  | 2 => .rdCh2OffH
  | 3 => .rdCh3OffH
  | 4 => .rdCh4OffH
  | 5 => .rdCh5OffH
  | 6 => .rdCh6OffH
  | 7 => .rdCh7OffH
  | 8 => .rdCh8OffH
  | 9 => .rdCh9OffH
  | 10 => .rdCh10OffH
  | 11 => .rdCh11OffH
  | 12 => .rdCh12OffH
  | 13 => .rdCh13OffH
  | 14 => .rdCh14OffH
  | _ => .rdCh15OffH

/-- The RD row of an edge register (30_encoding.md R106). -/
def rdEdge (c : Channel) : Edge → Instr
  | .onL => rdOnL c
  | .onH => rdOnH c
  | .offL => rdOffL c
  | .offH => rdOffH c

/-- The WR row of an edge register that carries the data byte `v`, where one does (30_encoding.md R104,
R106). -/
def wrEdge (c : Channel) (x : Edge) (v : Byte) : Except DecodeError Instr :=
  match x with
  | .onL => if v = 0x00#8 then .ok (wrOnL c) else .error .onEdgeNotZero
  | .onH => if v = 0x00#8 then .ok (wrOnH c) else .error .onEdgeNotZero
  | .offL => .ok (wrOffL c v)
  | .offH => if v.extractLsb' 4 4 = 0#4 then .ok (wrOffH c (v.extractLsb' 0 4)) else .error .reservedHighBits

/-- Decoding of a one-register write (30_encoding.md R106, R107). A MODE1 write is classified by its
data, the wake-up byte first (log 28). -/
def decodeWrite (cfg : Config) (r v : Byte) : Except DecodeError Instr :=
  match decodeReg cfg r with
  | .mode1 =>
    if v = cfg.m1Wake then .ok .wrMode1Wake
    else if v = cfg.m1Run then .ok .wrMode1Run
    else .error .modeByte
  | .mode2 => if v = cfg.m2Init then .ok .wrMode2 else .error .modeByte
  | .prescale => .ok (.wrPrescale v)
  | .edge c x => wrEdge c x v
  | .subadr1 => .error .registerNotAccessed
  | .subadr2 => .error .registerNotAccessed
  | .subadr3 => .error .registerNotAccessed
  | .allCallAdr => .error .registerNotAccessed
  | .testMode => .error .registerNotAccessed
  | .unnamed => .error .registerNotAccessed

/-- Decoding of a one-register read by its address-set phase (30_encoding.md R106, R107). -/
def decodeRead (cfg : Config) (r : Byte) : Except DecodeError Instr :=
  match decodeReg cfg r with
  | .mode1 => .ok .rdMode1
  | .mode2 => .ok .rdMode2
  | .prescale => .ok .rdPrescale
  | .edge c x => .ok (rdEdge c x)
  | .subadr1 => .error .registerNotAccessed
  | .subadr2 => .error .registerNotAccessed
  | .subadr3 => .error .registerNotAccessed
  | .allCallAdr => .error .registerNotAccessed
  | .testMode => .error .registerNotAccessed
  | .unnamed => .error .registerNotAccessed

/-- Decoding of a write transfer, in R107's order (30_encoding.md R107). -/
def decodeFrame (cfg : Config) (a : BusAddr) (bytes : List Byte) : Except DecodeError Instr :=
  if a = cfg.swrstAddr ∧ bytes = [cfg.swrstByte] then .ok .swrst
  else if a = cfg.devAddr then
    match bytes with
    | [r, v] => decodeWrite cfg r v
    | [r] => decodeRead cfg r
    | _ => .error .notAFrame
  else .error .notAFrame

/-- Decoding of an operation code (30_encoding.md R110, R112). -/
def decodeCmd (code : Byte) : Except DecodeError Instr :=
  match code.toNat with
  | 0x1 => .ok .opOpen
  | 0x2 => .ok .opReset
  | 0x3 => .ok .opWrch
  | 0x4 => .ok .opRdall
  | 0x5 => .ok .opPresc
  | 0x6 => .ok .opMap
  | 0x7 => .ok .opCal
  | 0x8 => .ok .opTick
  | 0x9 => .ok .opRun
  | 0xA => .ok .opShutdown
  | _ => .error .reservedCommand

/-- The decoder: a byte written to CMD, or the write transfer of a frame. -/
def decode (cfg : Config) : PortWord → Except DecodeError Instr
  | .cmd code => decodeCmd code
  | .frame a bytes => decodeFrame cfg a bytes

/-- The word a row of opcode_table.json stands for, its bits numbered as the table numbers them: 16 bits
are a W2 frame `reg ++ data` (30_encoding.md R101, log 17); 8 bits are an operation code where they are
0x01 to 0x0A and the `reg` byte of an R1 frame otherwise (log 16). -/
def tablePortWord (cfg : Config) (nbits w : Nat) : PortWord :=
  if nbits = 16 then
    .frame cfg.devAddr [BitVec.ofNat 8 (w / 256), BitVec.ofNat 8 w]
  else if nbits = 8 then
    if 0x01 ≤ w ∧ w ≤ 0x0A then .cmd (BitVec.ofNat 8 w) else .frame cfg.devAddr [BitVec.ofNat 8 w]
  else .frame cfg.devAddr []

/-- The instruction the decoder reads from a word of opcode_table.json, under the defaults the table is
printed with. -/
def decodeTableWord (nbits w : Nat) : Option Instr :=
  match decode Config.initial (tablePortWord Config.initial nbits w) with
  | .ok i => some i
  | .error _ => none

/-- The words of a one-register write (30_encoding.md R101). -/
def writeWord (cfg : Config) (r v : Byte) : PortWord := .frame cfg.devAddr [r, v]

/-- The words of a one-register read's address-set phase (30_encoding.md R102). -/
def readWord (cfg : Config) (r : Byte) : PortWord := .frame cfg.devAddr [r]

/-- The words of an instruction (30_encoding.md R101 to R106 and R110). -/
def encode (cfg : Config) : Instr → PortWord
  | .swrst => .frame cfg.swrstAddr [cfg.swrstByte]
  | .wrPrescale prescale => writeWord cfg 0xFE#8 prescale
  | .wrMode1Wake => writeWord cfg 0x00#8 cfg.m1Wake
  | .wrMode1Run => writeWord cfg 0x00#8 cfg.m1Run
  | .wrMode2 => writeWord cfg 0x01#8 cfg.m2Init
  | .wrCh0OnL => writeWord cfg (edgeAddr cfg 0 .onL) 0x00#8
  | .wrCh0OnH => writeWord cfg (edgeAddr cfg 0 .onH) 0x00#8
  | .wrCh0OffL dLo => writeWord cfg (edgeAddr cfg 0 .offL) dLo
  | .wrCh0OffH dHi => writeWord cfg (edgeAddr cfg 0 .offH) (offHighByte dHi)
  | .wrCh1OnL => writeWord cfg (edgeAddr cfg 1 .onL) 0x00#8
  | .wrCh1OnH => writeWord cfg (edgeAddr cfg 1 .onH) 0x00#8
  | .wrCh1OffL dLo => writeWord cfg (edgeAddr cfg 1 .offL) dLo
  | .wrCh1OffH dHi => writeWord cfg (edgeAddr cfg 1 .offH) (offHighByte dHi)
  | .wrCh2OnL => writeWord cfg (edgeAddr cfg 2 .onL) 0x00#8
  | .wrCh2OnH => writeWord cfg (edgeAddr cfg 2 .onH) 0x00#8
  | .wrCh2OffL dLo => writeWord cfg (edgeAddr cfg 2 .offL) dLo
  | .wrCh2OffH dHi => writeWord cfg (edgeAddr cfg 2 .offH) (offHighByte dHi)
  | .wrCh3OnL => writeWord cfg (edgeAddr cfg 3 .onL) 0x00#8
  | .wrCh3OnH => writeWord cfg (edgeAddr cfg 3 .onH) 0x00#8
  | .wrCh3OffL dLo => writeWord cfg (edgeAddr cfg 3 .offL) dLo
  | .wrCh3OffH dHi => writeWord cfg (edgeAddr cfg 3 .offH) (offHighByte dHi)
  | .wrCh4OnL => writeWord cfg (edgeAddr cfg 4 .onL) 0x00#8
  | .wrCh4OnH => writeWord cfg (edgeAddr cfg 4 .onH) 0x00#8
  | .wrCh4OffL dLo => writeWord cfg (edgeAddr cfg 4 .offL) dLo
  | .wrCh4OffH dHi => writeWord cfg (edgeAddr cfg 4 .offH) (offHighByte dHi)
  | .wrCh5OnL => writeWord cfg (edgeAddr cfg 5 .onL) 0x00#8
  | .wrCh5OnH => writeWord cfg (edgeAddr cfg 5 .onH) 0x00#8
  | .wrCh5OffL dLo => writeWord cfg (edgeAddr cfg 5 .offL) dLo
  | .wrCh5OffH dHi => writeWord cfg (edgeAddr cfg 5 .offH) (offHighByte dHi)
  | .wrCh6OnL => writeWord cfg (edgeAddr cfg 6 .onL) 0x00#8
  | .wrCh6OnH => writeWord cfg (edgeAddr cfg 6 .onH) 0x00#8
  | .wrCh6OffL dLo => writeWord cfg (edgeAddr cfg 6 .offL) dLo
  | .wrCh6OffH dHi => writeWord cfg (edgeAddr cfg 6 .offH) (offHighByte dHi)
  | .wrCh7OnL => writeWord cfg (edgeAddr cfg 7 .onL) 0x00#8
  | .wrCh7OnH => writeWord cfg (edgeAddr cfg 7 .onH) 0x00#8
  | .wrCh7OffL dLo => writeWord cfg (edgeAddr cfg 7 .offL) dLo
  | .wrCh7OffH dHi => writeWord cfg (edgeAddr cfg 7 .offH) (offHighByte dHi)
  | .wrCh8OnL => writeWord cfg (edgeAddr cfg 8 .onL) 0x00#8
  | .wrCh8OnH => writeWord cfg (edgeAddr cfg 8 .onH) 0x00#8
  | .wrCh8OffL dLo => writeWord cfg (edgeAddr cfg 8 .offL) dLo
  | .wrCh8OffH dHi => writeWord cfg (edgeAddr cfg 8 .offH) (offHighByte dHi)
  | .wrCh9OnL => writeWord cfg (edgeAddr cfg 9 .onL) 0x00#8
  | .wrCh9OnH => writeWord cfg (edgeAddr cfg 9 .onH) 0x00#8
  | .wrCh9OffL dLo => writeWord cfg (edgeAddr cfg 9 .offL) dLo
  | .wrCh9OffH dHi => writeWord cfg (edgeAddr cfg 9 .offH) (offHighByte dHi)
  | .wrCh10OnL => writeWord cfg (edgeAddr cfg 10 .onL) 0x00#8
  | .wrCh10OnH => writeWord cfg (edgeAddr cfg 10 .onH) 0x00#8
  | .wrCh10OffL dLo => writeWord cfg (edgeAddr cfg 10 .offL) dLo
  | .wrCh10OffH dHi => writeWord cfg (edgeAddr cfg 10 .offH) (offHighByte dHi)
  | .wrCh11OnL => writeWord cfg (edgeAddr cfg 11 .onL) 0x00#8
  | .wrCh11OnH => writeWord cfg (edgeAddr cfg 11 .onH) 0x00#8
  | .wrCh11OffL dLo => writeWord cfg (edgeAddr cfg 11 .offL) dLo
  | .wrCh11OffH dHi => writeWord cfg (edgeAddr cfg 11 .offH) (offHighByte dHi)
  | .wrCh12OnL => writeWord cfg (edgeAddr cfg 12 .onL) 0x00#8
  | .wrCh12OnH => writeWord cfg (edgeAddr cfg 12 .onH) 0x00#8
  | .wrCh12OffL dLo => writeWord cfg (edgeAddr cfg 12 .offL) dLo
  | .wrCh12OffH dHi => writeWord cfg (edgeAddr cfg 12 .offH) (offHighByte dHi)
  | .wrCh13OnL => writeWord cfg (edgeAddr cfg 13 .onL) 0x00#8
  | .wrCh13OnH => writeWord cfg (edgeAddr cfg 13 .onH) 0x00#8
  | .wrCh13OffL dLo => writeWord cfg (edgeAddr cfg 13 .offL) dLo
  | .wrCh13OffH dHi => writeWord cfg (edgeAddr cfg 13 .offH) (offHighByte dHi)
  | .wrCh14OnL => writeWord cfg (edgeAddr cfg 14 .onL) 0x00#8
  | .wrCh14OnH => writeWord cfg (edgeAddr cfg 14 .onH) 0x00#8
  | .wrCh14OffL dLo => writeWord cfg (edgeAddr cfg 14 .offL) dLo
  | .wrCh14OffH dHi => writeWord cfg (edgeAddr cfg 14 .offH) (offHighByte dHi)
  | .wrCh15OnL => writeWord cfg (edgeAddr cfg 15 .onL) 0x00#8
  | .wrCh15OnH => writeWord cfg (edgeAddr cfg 15 .onH) 0x00#8
  | .wrCh15OffL dLo => writeWord cfg (edgeAddr cfg 15 .offL) dLo
  | .wrCh15OffH dHi => writeWord cfg (edgeAddr cfg 15 .offH) (offHighByte dHi)
  | .rdMode1 => readWord cfg 0x00#8
  | .rdMode2 => readWord cfg 0x01#8
  | .rdPrescale => readWord cfg 0xFE#8
  | .rdCh0OnL => readWord cfg (edgeAddr cfg 0 .onL)
  | .rdCh0OnH => readWord cfg (edgeAddr cfg 0 .onH)
  | .rdCh0OffL => readWord cfg (edgeAddr cfg 0 .offL)
  | .rdCh0OffH => readWord cfg (edgeAddr cfg 0 .offH)
  | .rdCh1OnL => readWord cfg (edgeAddr cfg 1 .onL)
  | .rdCh1OnH => readWord cfg (edgeAddr cfg 1 .onH)
  | .rdCh1OffL => readWord cfg (edgeAddr cfg 1 .offL)
  | .rdCh1OffH => readWord cfg (edgeAddr cfg 1 .offH)
  | .rdCh2OnL => readWord cfg (edgeAddr cfg 2 .onL)
  | .rdCh2OnH => readWord cfg (edgeAddr cfg 2 .onH)
  | .rdCh2OffL => readWord cfg (edgeAddr cfg 2 .offL)
  | .rdCh2OffH => readWord cfg (edgeAddr cfg 2 .offH)
  | .rdCh3OnL => readWord cfg (edgeAddr cfg 3 .onL)
  | .rdCh3OnH => readWord cfg (edgeAddr cfg 3 .onH)
  | .rdCh3OffL => readWord cfg (edgeAddr cfg 3 .offL)
  | .rdCh3OffH => readWord cfg (edgeAddr cfg 3 .offH)
  | .rdCh4OnL => readWord cfg (edgeAddr cfg 4 .onL)
  | .rdCh4OnH => readWord cfg (edgeAddr cfg 4 .onH)
  | .rdCh4OffL => readWord cfg (edgeAddr cfg 4 .offL)
  | .rdCh4OffH => readWord cfg (edgeAddr cfg 4 .offH)
  | .rdCh5OnL => readWord cfg (edgeAddr cfg 5 .onL)
  | .rdCh5OnH => readWord cfg (edgeAddr cfg 5 .onH)
  | .rdCh5OffL => readWord cfg (edgeAddr cfg 5 .offL)
  | .rdCh5OffH => readWord cfg (edgeAddr cfg 5 .offH)
  | .rdCh6OnL => readWord cfg (edgeAddr cfg 6 .onL)
  | .rdCh6OnH => readWord cfg (edgeAddr cfg 6 .onH)
  | .rdCh6OffL => readWord cfg (edgeAddr cfg 6 .offL)
  | .rdCh6OffH => readWord cfg (edgeAddr cfg 6 .offH)
  | .rdCh7OnL => readWord cfg (edgeAddr cfg 7 .onL)
  | .rdCh7OnH => readWord cfg (edgeAddr cfg 7 .onH)
  | .rdCh7OffL => readWord cfg (edgeAddr cfg 7 .offL)
  | .rdCh7OffH => readWord cfg (edgeAddr cfg 7 .offH)
  | .rdCh8OnL => readWord cfg (edgeAddr cfg 8 .onL)
  | .rdCh8OnH => readWord cfg (edgeAddr cfg 8 .onH)
  | .rdCh8OffL => readWord cfg (edgeAddr cfg 8 .offL)
  | .rdCh8OffH => readWord cfg (edgeAddr cfg 8 .offH)
  | .rdCh9OnL => readWord cfg (edgeAddr cfg 9 .onL)
  | .rdCh9OnH => readWord cfg (edgeAddr cfg 9 .onH)
  | .rdCh9OffL => readWord cfg (edgeAddr cfg 9 .offL)
  | .rdCh9OffH => readWord cfg (edgeAddr cfg 9 .offH)
  | .rdCh10OnL => readWord cfg (edgeAddr cfg 10 .onL)
  | .rdCh10OnH => readWord cfg (edgeAddr cfg 10 .onH)
  | .rdCh10OffL => readWord cfg (edgeAddr cfg 10 .offL)
  | .rdCh10OffH => readWord cfg (edgeAddr cfg 10 .offH)
  | .rdCh11OnL => readWord cfg (edgeAddr cfg 11 .onL)
  | .rdCh11OnH => readWord cfg (edgeAddr cfg 11 .onH)
  | .rdCh11OffL => readWord cfg (edgeAddr cfg 11 .offL)
  | .rdCh11OffH => readWord cfg (edgeAddr cfg 11 .offH)
  | .rdCh12OnL => readWord cfg (edgeAddr cfg 12 .onL)
  | .rdCh12OnH => readWord cfg (edgeAddr cfg 12 .onH)
  | .rdCh12OffL => readWord cfg (edgeAddr cfg 12 .offL)
  | .rdCh12OffH => readWord cfg (edgeAddr cfg 12 .offH)
  | .rdCh13OnL => readWord cfg (edgeAddr cfg 13 .onL)
  | .rdCh13OnH => readWord cfg (edgeAddr cfg 13 .onH)
  | .rdCh13OffL => readWord cfg (edgeAddr cfg 13 .offL)
  | .rdCh13OffH => readWord cfg (edgeAddr cfg 13 .offH)
  | .rdCh14OnL => readWord cfg (edgeAddr cfg 14 .onL)
  | .rdCh14OnH => readWord cfg (edgeAddr cfg 14 .onH)
  | .rdCh14OffL => readWord cfg (edgeAddr cfg 14 .offL)
  | .rdCh14OffH => readWord cfg (edgeAddr cfg 14 .offH)
  | .rdCh15OnL => readWord cfg (edgeAddr cfg 15 .onL)
  | .rdCh15OnH => readWord cfg (edgeAddr cfg 15 .onH)
  | .rdCh15OffL => readWord cfg (edgeAddr cfg 15 .offL)
  | .rdCh15OffH => readWord cfg (edgeAddr cfg 15 .offH)
  | .opOpen => .cmd 0x01#8
  | .opReset => .cmd 0x02#8
  | .opWrch => .cmd 0x03#8
  | .opRdall => .cmd 0x04#8
  | .opPresc => .cmd 0x05#8
  | .opMap => .cmd 0x06#8
  | .opCal => .cmd 0x07#8
  | .opTick => .cmd 0x08#8
  | .opRun => .cmd 0x09#8
  | .opShutdown => .cmd 0x0A#8

/-- The decoded view of one channel's four read-back bytes (30_encoding.md R108). The reading of bit 4 as
always-on and always-off is general knowledge (log 35). -/
structure ChannelView where
  on : Duty
  off : Duty
  alwaysOn : Bool
  alwaysOff : Bool
  onReserved : BitVec 3
  offReserved : BitVec 3
deriving DecidableEq, Repr

/-- Decoding of the four read-back bytes of a channel (30_encoding.md R108). -/
def channelView (onL onH offL offH : Byte) : ChannelView where
  on := onH.extractLsb' 0 4 ++ onL
  off := offH.extractLsb' 0 4 ++ offL
  alwaysOn := onH.getLsbD 4
  alwaysOff := offH.getLsbD 4
  onReserved := onH.extractLsb' 5 3
  offReserved := offH.extractLsb' 5 3

/-- The decoded view of channel `c` in the 67 bytes of RES_SNAP (30_encoding.md R108). -/
def snapChannelView (bytes : List Byte) (c : Channel) : ChannelView :=
  channelView (bytes.getD (3 + 4 * c.val) 0) (bytes.getD (4 + 4 * c.val) 0)
    (bytes.getD (5 + 4 * c.val) 0) (bytes.getD (6 + 4 * c.val) 0)

/-- `low_power` of a MODE1 byte (30_encoding.md R108). -/
def lowPowerBit (cfg : Config) (mode1 : Byte) : Bool := mode1 &&& cfg.m1SleepMask != 0#8

/-- The PWM period in oscillator cycles for a PRESCALE byte (20_memory.md R84). -/
def pwmPeriodCycles (prescale : Byte) : Nat := pwmCounts * (prescale.toNat + 1)

/-- The PWM frequency in hertz for a PRESCALE byte, exact: OSC_HZ / (4096 × (PRESCALE + 1))
(10_state.md R35, 30_encoding.md R108). -/
def pwmFrequency (prescale : Byte) : ℚ := oscHz / pwmPeriodCycles prescale

/-- The decoded view of the 67 bytes of RES_SNAP (30_encoding.md R108). -/
structure SnapView where
  lowPower : Bool
  frequency : ℚ
  channel : Vector ChannelView 16
deriving DecidableEq, Repr

/-- Decoding of RES_SNAP: byte 0 is MODE1, byte 2 PRESCALE, and four bytes for each channel from byte 3 on
(30_encoding.md R108). -/
def snapView (cfg : Config) (bytes : List Byte) : SnapView where
  lowPower := lowPowerBit cfg (bytes.getD 0 0)
  frequency := pwmFrequency (bytes.getD 2 0)
  channel := Vector.ofFn (snapChannelView bytes)

end Sys2Proof
end

