-- ==== Sys2Proof/Machine/State.lean ====
section
/-! DEFINITION. The state of the block (10_state.md R20), of the chip it drives (R32 to R38, 20_memory.md
R72) and of what is about to reach it from outside (00_scope.md R13), as plain data; the reasons a step
stops; the state after block reset (70_reset_and_hazards.md R311). -/
namespace Sys2Proof.Machine

/-- The two GPIO lines (10_state.md R30). -/
inductive Line where
  | setting
  | power
deriving DecidableEq, Repr

/-- The level of a GPIO line as the block knows it (10_state.md R30, 20_memory.md R77). -/
inductive Level where
  | low
  | high
  | unknown
deriving DecidableEq, Repr

/-- The state of one GPIO line (10_state.md R30). -/
structure GpioLine where
  held : Bool
  level : Level
deriving DecidableEq, Repr

/-- The five error kinds (60_exceptions.md R271). -/
inductive ErrKind where
  | busTransfer
  | reset
  | allocation
  | outOfRange
  | calibrationAborted
deriving DecidableEq, Repr

/-- ERR (10_state.md R29). -/
structure ErrReg where
  code : BitVec 3
  info : BitVec 16
deriving DecidableEq, Repr

/-- HANDLE's content: the token of the open bus connection and the last-known prescale
(10_state.md R24; the tokens, log 27). -/
structure Handle where
  conn : Nat
  prescale : Byte
deriving DecidableEq, Repr

/-- The four intermediate states of the handshake (10_state.md R26). -/
inductive CalStep where
  | powerOn
  | neutralSet
  | maxSet
  | minSet
deriving DecidableEq, Repr

/-- MCS, the motor calibration state (10_state.md R26). -/
inductive Mcs where
  | notStarted
  | inProgress (step : CalStep)
  | done
deriving DecidableEq, Repr

/-- The phases of the sequencer (10_state.md R27). -/
inductive Phase where
  | idle
  | init
  | calibrating
  | running
  | shuttingDown
  | halted (code : Nat)
deriving DecidableEq, Repr

/-- SEQ, what the block has in place of a program counter (10_state.md R27). -/
structure Seq where
  phase : Phase
  idx : Channel
deriving DecidableEq, Repr

/-- One channel's entry of the command snapshot (10_state.md R23). -/
structure ChannelCommand where
  active : Byte
  pulseFrac : F32
deriving DecidableEq, Repr

/-- The command snapshot record (10_state.md R23, 20_memory.md R74). -/
structure Snapshot where
  valid : Byte
  ch : Vector ChannelCommand 16
deriving DecidableEq, Repr

/-- The kinds of log event (60_exceptions.md R288). -/
inductive LogKind where
  | uncal
  | actFail
  | range
  | calAbort
  | resetFail
  | fatal
deriving DecidableEq, Repr

/-- The events of the trace TR (00_scope.md R12). -/
inductive Event where
  | busOpen (ok : Bool)
  | busClose
  | busW (addr : BusAddr) (bytes : List Byte) (ok : Bool)
  /-- A read transfer of `n` bytes; no bytes where it failed. -/
  | busR (addr : BusAddr) (n : Nat) (result : Option (List Byte))
  | gpioReq (line : Line) (ok : Bool)
  | gpioSet (line : Line) (high : Bool) (ok : Bool)
  | gpioRel (line : Line)
  | delay (wait : Wait)
  | semAcq
  | semRel
  | sense (reading : F64)
  | log (kind : LogKind) (info : BitVec 16)
  | exit (code : Nat)
deriving DecidableEq, Repr

/-- The chip's registers that hold a byte, as address and byte pairs; an address not listed is unwritten
(20_memory.md R72). Its canonical form is `Memory.wf` (Machine/Chip.lean). -/
abbrev Memory := List Host.Cell

/-- The reference chip of 20_memory.md R72. -/
structure Chip where
  /-- The registers that hold a byte. -/
  regs : Memory
  /-- MODE1 is still as the last SWRST forced it: a draw with the sleep bit set (log 9). -/
  resetMode1 : Bool
  /-- MODEL FIELD: how many SWRSTs the chip has taken; it numbers the draws (log 8). -/
  resets : Nat
deriving DecidableEq, Repr

/-- What one bus transfer answers (20_memory.md R62). A failed write transfer may have delivered any
number of its first bytes (log 11). -/
inductive TransferResult where
  | ok
  | fail (delivered : Nat)
deriving DecidableEq, Repr

/-- An answer of another agent, or none ever (70_reset_and_hazards.md R333, log 7). -/
inductive Reply (α : Type) where
  | got (answer : α)
  | hang
deriving DecidableEq, Repr

/-- The answers an agent will give: those queued, oldest first, and the one it gives ever after (log 6). -/
structure Draws (α : Type) where
  queue : List α
  rest : α
deriving DecidableEq, Repr

/-- MODEL FIELD. The environment's answers to come (00_scope.md R13, log 6). -/
structure Env where
  /-- Whether handle storage can be obtained, at step 1 of OPEN (60_exceptions.md R274); it
  is always answered (log 40). -/
  storage : Draws Bool
  /-- BusOpen: a connection token, or none for `fail` (40_register_protocol.md R150). -/
  busOpen : Draws (Option Nat)
  /-- Every BusWrite and BusRead, in order (20_memory.md R62). -/
  bus : Draws (Reply TransferResult)
  /-- Every GpioRequest and GpioWrite, in order (20_memory.md R76). -/
  gpio : Draws (Reply Bool)
  /-- Every GpioRelease, in order: it answers nothing and cannot fail (20_memory.md R76), but as a GPIO
  action it may never return (70_reset_and_hazards.md R333). -/
  release : Draws (Reply Unit)
  /-- GetDistance (20_memory.md R78). -/
  sensor : Draws (Reply F64)
  /-- The content of SHM at each acquire of the semaphore (20_memory.md R74, R75). -/
  shm : Draws (Reply Snapshot)
deriving DecidableEq, Repr

/-- The three result registers (10_state.md R21). -/
inductive ResultReg where
  | duty
  | presc
  | snap
deriving DecidableEq, Repr

/-- What the host does at its port in one step (10_state.md R21, 70_reset_and_hazards.md R310). -/
inductive PortAction where
  /-- Nothing. -/
  | idle
  | writeArgCh (v : Byte)
  | writeArgDuty (v : BitVec 16)
  | writeArgFrac (v : F32)
  | writeArgFreq (v : BitVec 32)
  | writeArgMode (v : BitVec 2)
  /-- A byte written to CMD, or the request of one bus frame (log 15). -/
  | issue (w : PortWord)
  /-- A read of a result register. -/
  | readResult (r : ResultReg)
  /-- The block reset. -/
  | blockReset
deriving DecidableEq, Repr

/-- What reaches the block from outside at one step: whether the termination signal has arrived since the
last step (60_exceptions.md R282, log 12), and what the host does. -/
structure Input where
  term : Bool
  action : PortAction
deriving DecidableEq, Repr

/-- The whole state: the tuple of 10_state.md R20 with CFG, the trace TR, the chip, and the model's own
fields for what is to come from outside. -/
structure State where
  /-- CFG, CAL included (00_scope.md R8, 10_state.md R22, R31). -/
  cfg : Config
  /-- CMD (10_state.md R21). -/
  cmd : Byte
  /-- ARG_CH. -/
  argCh : Byte
  /-- ARG_DUTY. -/
  argDuty : BitVec 16
  /-- ARG_FRAC. -/
  argFrac : F32
  /-- ARG_FREQ. -/
  argFreq : BitVec 32
  /-- ARG_MODE. -/
  argMode : BitVec 2
  /-- RES_DUTY, and whether MAP has written it (10_state.md R21, log 4). -/
  resDuty : Duty
  resDutyWritten : Bool
  /-- RES_PRESC, and whether PRESC has written it. -/
  resPresc : Byte
  resPrescWritten : Bool
  /-- RES_SNAP, 67 bytes, and whether RDALL has written it. -/
  resSnap : List Byte
  resSnapWritten : Bool
  /-- SNAP (10_state.md R23). -/
  snap : Snapshot
  /-- CLR (10_state.md R25). -/
  clr : F64
  /-- HANDLE (10_state.md R24). -/
  handle : Option Handle
  /-- MCS (10_state.md R26). -/
  mcs : Mcs
  /-- SEQ (10_state.md R27). -/
  seq : Seq
  /-- Whether RUN is in progress (60_exceptions.md R284, log 14). -/
  runActive : Bool
  /-- TERM (10_state.md R28). -/
  term : Bool
  /-- CAL_ATTEMPTED (10_state.md R28). -/
  calAttempted : Bool
  /-- ERR (10_state.md R29). -/
  err : ErrReg
  /-- GPIO[SETTING] (10_state.md R30). -/
  gpioSetting : GpioLine
  /-- GPIO[POWER] (10_state.md R30). -/
  gpioPower : GpioLine
  /-- TR (00_scope.md R12), the oldest event first. -/
  tr : List Event
  /-- The chip (20_memory.md R72). -/
  chip : Chip
  /-- MODEL FIELD: the environment's answers to come (log 6). -/
  env : Env
  /-- MODEL FIELD: the inputs of the coming steps, the next one first (log 29). -/
  inbox : List Input
deriving DecidableEq, Repr

/-- The other agents whose answer the block waits for (70_reset_and_hazards.md R333). -/
inductive Agent where
  | bus
  | gpio
  | sensor
  | semaphore
deriving DecidableEq, Repr

/-- Why the machine stops with a fault. -/
inductive Fault where
  /-- Raised by the chip when PRESCALE is written while it is not known to be in low-power mode:
  "writing prescale while active is undefined" (70_reset_and_hazards.md R322,
  93_implementation_defined.md U2). Safe (log 10). -/
  | prescaleWhileActive
  /-- Raised by a host read of a result register before its operation succeeded, as the spec asks: "a model
  faults a read of one before that" (10_state.md R21), "is a fault in a model" (70_reset_and_hazards.md
  R311), treatment `fault` (93_implementation_defined.md U11). Safe (log 4). -/
  | resultNotWritten (r : ResultReg)
  /-- Raised by a bus transfer, a GPIO action, GetDistance or SemAcquire that never answers: the block is
  stuck (70_reset_and_hazards.md R333, 93_implementation_defined.md U16). Safe (log 7). -/
  | blocked (agent : Agent)
deriving DecidableEq, Repr

/-- Why the machine gives an input no meaning. -/
inductive Refusal where
  /-- Raised by an arm of exec whose instruction has no meaning yet. Safe. -/
  | notModelled (mnemonic : String)
  /-- Raised by step under an ill-formed CFG: "an ill-formed CFG is refused, not run"
  (00_scope.md R9, 93_implementation_defined.md U10). Safe (log 20). -/
  | illFormedConfig
  /-- Raised by RUN with ARG_MODE = 2: "this spec gives it no meaning and a model refuses
  `RUN SENSOR_TEST`" (43_control_loop.md R230, 93_implementation_defined.md U9). Safe (log 19). -/
  | sensorTest
  /-- Raised by the frame request of a transfer that is no frame of the block (30_encoding.md R106,
  R107). Safe (log 21). -/
  | notAFrame
deriving DecidableEq, Repr

/-- The snapshot all of whose bytes are 0. -/
def Snapshot.zero : Snapshot where
  valid := 0
  ch := Vector.replicate 16 ⟨0, 0⟩

/-- The environment that answers every action well: storage is there, the bus opens, every transfer and
GPIO action is `ok`, the distance is 100.0 cm, the snapshot is all zero. DESIGN CHOICE (log 6). -/
def Env.initial : Env where
  storage := ⟨[], true⟩
  busOpen := ⟨[], some 0⟩
  bus := ⟨[], .got .ok⟩
  gpio := ⟨[], .got true⟩
  release := ⟨[], .got ()⟩
  sensor := ⟨[], .got 0x4059000000000000#64⟩
  shm := ⟨[], .got .zero⟩

/-- The chip at its own power-on: nothing is known of its registers (70_reset_and_hazards.md R312,
log 37). -/
def Chip.powerOn : Chip where
  regs := []
  resetMode1 := false
  resets := 0

/-- The block after block reset under a loaded configuration, with the chip, the environment and the
inputs given (70_reset_and_hazards.md R310, R311; the values R311 leaves unspecified, log 3 to 5). -/
def State.resetWith (cfg : Config) (chip : Chip) (env : Env) (inbox : List Input) : State where
  cfg := cfg
  cmd := 0
  argCh := 0
  argDuty := 0
  argFrac := 0
  argFreq := 0
  argMode := 0
  resDuty := 0
  resDutyWritten := false
  resPresc := 0
  resPrescWritten := false
  resSnap := List.replicate 67 0
  resSnapWritten := false
  snap := Snapshot.zero
  clr := 0
  handle := none
  mcs := .notStarted
  seq := ⟨.idle, 0⟩
  runActive := false
  term := false
  calAttempted := false
  err := ⟨0, 0⟩
  gpioSetting := ⟨false, .unknown⟩
  gpioPower := ⟨false, .unknown⟩
  tr := []
  chip := chip
  env := env
  inbox := inbox

/-- The machine right after reset (70_reset_and_hazards.md R311). -/
def State.reset : State :=
  State.resetWith Config.initial Chip.powerOn Env.initial []

end Sys2Proof.Machine
end

