-- ==== Sys2Proof/Machine/Chip.lean ====
section
/-! DEFINITION. The reference chip (20_memory.md R72): its register memory in one canonical form, what a
transfer does to it, what a register reads as, and the view of its outputs (R84). -/
namespace Sys2Proof.Machine

/-- The canonical form of a register memory: addresses strictly rising, each below 256. An unlisted
address has no value, so no entry can equal what one reads as. -/
def Memory.wf : Memory → Bool
  | [] => true
  | [c] => decide (c.1 < 256)
  | c :: d :: rest => decide (c.1 < d.1) && Memory.wf (d :: rest)

/-- The byte at an address; `none` where nothing has been written. -/
def Memory.read (m : Memory) (a : Nat) : Option Byte :=
  match m with
  | [] => none
  | c :: rest => if c.1 = a then some c.2 else Memory.read rest a

/-- The memory with byte `v` at address `a`. -/
def Memory.write (m : Memory) (a : Nat) (v : Byte) : Memory :=
  match m with
  | [] => [(a, v)]
  | c :: rest =>
    if a < c.1 then (a, v) :: c :: rest
    else if a = c.1 then (a, v) :: rest
    else c :: Memory.write rest a v

/-- The byte the `k`-th SWRST leaves in MODE1: a draw constrained by "`m and M1_SLEEP_MASK ≠ 0`"
(20_memory.md R72). As the mask is one bit, setting it in a free byte gives every such `m` (log 9). -/
def resetMode1Byte (cfg : Config) (k : Nat) : Byte := Config.chipDraw k regMode1 ||| cfg.m1SleepMask

/-- What is known of the chip's low-power state (10_state.md R38(a), 60_exceptions.md R289): set after
SWRST, the sleep bit of MODE1 once that is written, unknown before either. -/
def Chip.lowPower (cfg : Config) (chip : Chip) : Option Bool :=
  match chip.regs.read 0 with
  | some b => some (lowPowerBit cfg b)
  | none => if chip.resetMode1 then some true else none

/-- The effect of SWRST: every register unwritten, MODE1 a draw with the sleep bit set (20_memory.md
R71(a), R72). -/
def Chip.softwareReset (chip : Chip) : Chip where
  regs := []
  resetMode1 := true
  resets := chip.resets + 1

/-- The chip with byte `v` in register `r` (20_memory.md R72). -/
def Chip.withReg (chip : Chip) (r v : Byte) : Chip :=
  { chip with
    regs := chip.regs.write r.toNat v
    resetMode1 := if r = regMode1 then false else chip.resetMode1 }

/-- The effect of a one-register write (20_memory.md R64, R72); `none` where PRESCALE is written while
the chip is not known to be in low-power mode (R71(c), log 10). -/
def Chip.store (cfg : Config) (chip : Chip) (r v : Byte) : Option Chip :=
  if r = regPrescale ∧ chip.lowPower cfg ≠ some true then none
  else some (chip.withReg r v)

/-- What the bytes of a write transfer that reached the bus do to the chip (20_memory.md R62, R64 to R66):
the reset broadcast resets it, two bytes to its address write a register, one byte to its address is an
address-set phase and changes nothing. -/
def Chip.receive (cfg : Config) (chip : Chip) (a : BusAddr) (bytes : List Byte) : Option Chip :=
  if a = cfg.swrstAddr ∧ bytes = [cfg.swrstByte] then some chip.softwareReset
  else if a = cfg.devAddr then
    match bytes with
    | [r, v] => chip.store cfg r v
    | _ => some chip
  else some chip

/-- What a register reads as (20_memory.md R65, R72): its byte; MODE1's constrained draw from SWRST until
it is written; else the register's draw of the last reset, the same at every read
(93_implementation_defined.md U5, log 8). Reading changes nothing. -/
def Chip.load (cfg : Config) (chip : Chip) (r : Byte) : Byte :=
  match chip.regs.read r.toNat with
  | some b => b
  | none =>
    if r = regMode1 ∧ chip.resetMode1 = true then resetMode1Byte cfg chip.resets
    else Config.chipDraw chip.resets r

/-- The chip's mode and prescale registers as a completed OPEN leaves them (40_register_protocol.md R142).
"The block's rules about channel outputs hold only after OPEN has completed" (70_reset_and_hazards.md
R313); that the registers stand for it is the model's choice (log 26). -/
def Chip.configured (cfg : Config) (chip : Chip) : Bool :=
  chip.regs.read regMode1.toNat == some cfg.m1Run && chip.regs.read regMode2.toNat == some cfg.m2Init &&
    (chip.regs.read regPrescale.toNat).isSome

/-- The output of one channel, as far as the spec gives it (20_memory.md R71(a), R84). -/
inductive ChannelOutput where
  /-- De-asserted, after SWRST until MODE1 is written. -/
  | deasserted
  /-- High for `counts` of every 4096 counts, from count 0 on. -/
  | pulse (counts : Nat)
  /-- The spec gives the waveform no value (70_reset_and_hazards.md R313, R321,
  93_implementation_defined.md U1, U4, U18; log 26). -/
  | noValue
deriving DecidableEq, Repr

/-- The output of channel `c` (20_memory.md R84): with the chip configured as OPEN leaves it, the ON edge
0, the status bits clear and the OFF edge not 0, high for OFF counts of every period. DESIGN CHOICE: as the
effect of the restart bit and of MODE2's driver bits is open (93_implementation_defined.md U18), a chip
with any other byte in MODE1 or MODE2 has no value here, awake or not (log 26). -/
def Chip.output (cfg : Config) (chip : Chip) (c : Channel) : ChannelOutput :=
  if chip.resetMode1 then .deasserted
  else if chip.configured cfg then
    match chip.regs.read (edgeAddr cfg c .onL).toNat, chip.regs.read (edgeAddr cfg c .onH).toNat,
      chip.regs.read (edgeAddr cfg c .offL).toNat, chip.regs.read (edgeAddr cfg c .offH).toNat with
    | some onL, some onH, some offL, some offH =>
      let v := channelView onL onH offL offH
      if v.on = 0 ∧ v.off ≠ 0 ∧ v.alwaysOn = false ∧ v.alwaysOff = false ∧
          v.onReserved = 0 ∧ v.offReserved = 0 then .pulse v.off.toNat
      else .noValue
    | _, _, _, _ => .noValue
  else .noValue

end Sys2Proof.Machine
end

