-- ==== Sys2Proof/Machine/Flags.lean ====
section
/-! DEFINITION. The flags (10_state.md R28), the error register's values (60_exceptions.md R271) and the
clearance comparison (43_control_loop.md R234). -/
namespace Sys2Proof.Machine

/-- MOTOR_TRUSTED, "defined as `MCS = Done`" (10_state.md R28). -/
def motorTrusted (s : State) : Bool := decide (s.mcs = .done)

/-- HANDLE_OPEN, "defined as `HANDLE ≠ None`" (10_state.md R28). -/
def handleOpen (s : State) : Bool := s.handle.isSome

/-- The termination signal: "`TERM <- 1`", never cleared (60_exceptions.md R282). -/
def latchTerm (arrived : Bool) (s : State) : State :=
  { s with term := s.term || arrived }

/-- The code of an error kind (60_exceptions.md R271). -/
def errCode : ErrKind → BitVec 3
  | .busTransfer => 1
  | .reset => 2
  | .allocation => 3
  | .outOfRange => 4
  | .calibrationAborted => 5

/-- ERR cleared, "at the start of each operation issued through CMD" (10_state.md R29). -/
def clearErr (s : State) : State := { s with err := ⟨0, 0⟩ }

/-- ERR after a raise (60_exceptions.md R270). -/
def setErr (kind : ErrKind) (info : BitVec 16) (s : State) : State :=
  { s with err := ⟨errCode kind, info⟩ }

/-- The code of a line in the `info` of CalibrationAbortedError (60_exceptions.md R271). -/
def lineCode : Line → Byte
  | .setting => 0
  | .power => 1

/-- A flag byte of the snapshot is false when 0 and true otherwise (10_state.md R23). -/
def flagSet (b : Byte) : Bool := b != 0#8

/-- `below(r, T)`, the IEEE 754 less-than of two `f64` words (43_control_loop.md R234): false if either is
a NaN; minus infinity lies below everything but itself, plus infinity below nothing. -/
def below (r t : F64) : Bool :=
  match f64Value r, f64Value t with
  | .nan, _ => false
  | _, .nan => false
  | .infinite true, .infinite true => false
  | .infinite true, _ => true
  | .infinite false, _ => false
  | .finite _, .infinite negative => !negative
  | .finite x, .finite y => decide (x < y)

end Sys2Proof.Machine
end

