-- ==== Sys2Proof/Machine/Ops.lean ====
section
/-! DEFINITION. The named operations every meaning is made of: what an action answers, raising an error
and absorbing one (60_exceptions.md R270, R277 to R281), the bus, GPIO, semaphore and sensor primitives of
00_scope.md R11, and the end of a run. -/
namespace Sys2Proof.Machine

/-- An error that was raised, for the caller's policy (60_exceptions.md R270). -/
structure Raise where
  kind : ErrKind
  info : BitVec 16
deriving DecidableEq, Repr

/-- What an action of the block comes to: it is done, it raised an error, or the machine stops. -/
inductive Res (α : Type) where
  | done (answer : α) (s : State)
  | raised (e : Raise) (s : State)
  | stopped (f : Fault)
deriving Repr

/-- An action of the block that answers nothing. -/
abbrev Act := State → Res Unit

/-- Go on with a done action's answer and state; an error or a stop ends the sequence
(40_register_protocol.md R140(c)). -/
def Res.andThen {α β : Type} (r : Res α) (next : α → State → Res β) : Res β :=
  match r with
  | .done a s => next a s
  | .raised e s => .raised e s
  | .stopped f => .stopped f

/-- The steps of an operation, in the order written (40_register_protocol.md R140(a)). -/
def runSteps : List Act → Act
  | [], s => .done () s
  | a :: rest, s => (a s).andThen fun _ s' => runSteps rest s'

/-- The return from an error: the caller absorbs it, does what its policy says and goes on with its next
step (60_exceptions.md R278, R279, R281). -/
def Res.absorb (r : Res Unit) (policy : Raise → State → State) : Res Unit :=
  match r with
  | .done _ s => .done () s
  | .raised e s => .done () (policy e s)
  | .stopped f => .stopped f

/-- How an operation ends (30_encoding.md R109): a raised error shows in ERR and the machine goes on. -/
def Res.outcome (r : Res Unit) : Host.Outcome State Fault Refusal :=
  match r with
  | .done _ s => .next s
  | .raised _ s => .next s
  | .stopped f => .fault f

/-- TAKING AN ERROR: `raise E(info)` writes ERR, ends the operation at that step with everything done so
far in place, and hands the error to the caller (60_exceptions.md R270). -/
def raiseErr {α : Type} (kind : ErrKind) (info : BitVec 16) (s : State) : Res α :=
  .raised ⟨kind, info⟩ (setErr kind info s)

/-- One event appended to TR (00_scope.md R12). -/
def emit (e : Event) (s : State) : State := { s with tr := s.tr ++ [e] }

/-- `Log(kind, info)` (00_scope.md R11). -/
def logEvent (kind : LogKind) (info : BitVec 16) (s : State) : State := emit (.log kind info) s

/-- `Delay(t)` (00_scope.md R11, 70_reset_and_hazards.md R330). -/
def delay (w : Wait) : Act := fun s => .done () (emit (.delay w) s)

/-- The next answer of an agent. -/
def Draws.head {α : Type} (d : Draws α) : α := d.queue.headD d.rest

/-- The answers after the next one. -/
def Draws.tail {α : Type} (d : Draws α) : Draws α := { d with queue := d.queue.tail }

/-- Whether a transfer answered `ok`. -/
def TransferResult.isOk : TransferResult → Bool
  | .ok => true
  | .fail _ => false

/-- The first bytes of a write transfer that reach the chip (20_memory.md R62). -/
def TransferResult.arrived (bytes : List Byte) : TransferResult → List Byte
  | .ok => bytes
  | .fail delivered => bytes.take delivered

/-- `BusWrite(a, bytes)` (20_memory.md R62): answers `ok` or `fail`. -/
def busWrite (a : BusAddr) (bytes : List Byte) (s : State) : Res Bool :=
  match s.env.bus.head with
  | .hang => .stopped (.blocked .bus)
  | .got r =>
    match s.chip.receive s.cfg a (r.arrived bytes) with
    | none => .stopped .prescaleWhileActive
    | some chip =>
      .done r.isOk (emit (.busW a bytes r.isOk)
        { s with env := { s.env with bus := s.env.bus.tail }, chip := chip })

/-- `BusRead(DEV_ADDR, 1)` after an address-set phase of register `r` (20_memory.md R62, R65): answers
the byte or `fail`. -/
def busRead (r : Byte) (s : State) : Res (Option Byte) :=
  match s.env.bus.head with
  | .hang => .stopped (.blocked .bus)
  | .got .ok =>
    .done (some (s.chip.load s.cfg r)) (emit (.busR s.cfg.devAddr 1 (some [s.chip.load s.cfg r]))
      { s with env := { s.env with bus := s.env.bus.tail } })
  | .got (.fail _) =>
    .done none (emit (.busR s.cfg.devAddr 1 none)
      { s with env := { s.env with bus := s.env.bus.tail } })

/-- REGWR, `MemWrite(r, 1, v)` (20_memory.md R64, 60_exceptions.md R272). -/
def regWrite (r v : Byte) : Act := fun s =>
  (busWrite s.cfg.devAddr [r, v] s).andThen fun ok s' =>
    if ok then .done () s' else raiseErr .busTransfer (infoWord 0x00 r) s'

/-- REGRD, `MemRead(r, 1)` (20_memory.md R65, 60_exceptions.md R272). -/
def regRead (r : Byte) (s : State) : Res Byte :=
  (busWrite s.cfg.devAddr [r] s).andThen fun ok s' =>
    if ok then
      (busRead r s').andThen fun v s'' =>
        match v with
        | some b => .done b s''
        | none => raiseErr .busTransfer (infoWord 0x02 r) s''
    else raiseErr .busTransfer (infoWord 0x01 r) s'

/-- SWRST, the broadcast software reset (20_memory.md R66, 60_exceptions.md R273). -/
def swrst : Act := fun s =>
  (busWrite s.cfg.swrstAddr [s.cfg.swrstByte] s).andThen fun ok s' =>
    if ok then .done () s' else raiseErr .reset (infoWord 0x00 0x00) s'

/-- `BusOpen(path)` (40_register_protocol.md R150): a connection, or BusTransferError with phase 3.
DESIGN CHOICE: it always returns (log 40). -/
def busOpen (s : State) : Res Nat :=
  let s' := { s with env := { s.env with busOpen := s.env.busOpen.tail } }
  match s.env.busOpen.head with
  | some conn => .done conn (emit (.busOpen true) s')
  | none => raiseErr .busTransfer (infoWord 0x03 0x00) (emit (.busOpen false) s')

/-- `BusClose(conn)`: cannot fail (40_register_protocol.md R150). DESIGN CHOICE: it always returns
(log 40). -/
def busClose (s : State) : State := emit .busClose s

/-- The refusal of a bus operation without a handle: ERR only (40_register_protocol.md R140(d)). -/
def refuseNoHandle {α : Type} (s : State) : Res α := raiseErr .busTransfer (infoWord 0x03 0x00) s

/-- The refusal of a reserved command: ERR only (30_encoding.md R112). -/
def refuseReserved {α : Type} (s : State) : Res α := raiseErr .outOfRange (infoWord 0xFF 0xFF) s

/-- An operation that needs the bus (40_register_protocol.md R140(d)). -/
def needHandle (a : Act) : Act := fun s =>
  match s.handle with
  | none => refuseNoHandle s
  | some _ => a s

/-- The state of a line (10_state.md R30). -/
def gpioLine (l : Line) (s : State) : GpioLine :=
  match l with
  | .setting => s.gpioSetting
  | .power => s.gpioPower

/-- The state with a line replaced. -/
def setGpioLine (l : Line) (g : GpioLine) (s : State) : State :=
  match l with
  | .setting => { s with gpioSetting := g }
  | .power => { s with gpioPower := g }

/-- The next GPIO answer, taken (00_scope.md R13). -/
def gpioAnswer (s : State) : Res Bool :=
  match s.env.gpio.head with
  | .hang => .stopped (.blocked .gpio)
  | .got ok => .done ok { s with env := { s.env with gpio := s.env.gpio.tail } }

/-- `GpioRequest(l)` in a transition of the handshake (20_memory.md R76, 10_state.md R30, 42_motor_
calibration.md R208): the level becomes unknown, `held` is set when it answers `ok` (log 24). -/
def gpioRequest (transition : Byte) (l : Line) : Act := fun s =>
  (gpioAnswer s).andThen fun ok s' =>
    let g := gpioLine l s'
    let s'' := emit (.gpioReq l ok) (setGpioLine l ⟨g.held || ok, .unknown⟩ s')
    if ok then .done () s'' else raiseErr .calibrationAborted (infoWord transition (lineCode l)) s''

/-- `GpioWrite(l, b)` in a transition of the handshake (20_memory.md R76, 10_state.md R30, 42_motor_
calibration.md R208): a failed write leaves the level as it was (log 24). -/
def gpioWrite (transition : Byte) (l : Line) (high : Bool) : Act := fun s =>
  (gpioAnswer s).andThen fun ok s' =>
    if ok then
      .done () (emit (.gpioSet l high true)
        (setGpioLine l { gpioLine l s' with level := if high then .high else .low } s'))
    else
      raiseErr .calibrationAborted (infoWord transition (lineCode l)) (emit (.gpioSet l high false) s')

/-- What a release leaves: the line not held, its level unknown, one event (20_memory.md R77, 10_state.md
R30). -/
def markReleased (l : Line) (s : State) : State :=
  emit (.gpioRel l) (setGpioLine l ⟨false, .unknown⟩ s)

/-- `GpioRelease(l)`: cannot fail (20_memory.md R76), but as a GPIO action it may never return
(70_reset_and_hazards.md R333, log 7). -/
def gpioRelease (l : Line) : Act := fun s =>
  match s.env.release.head with
  | .hang => .stopped (.blocked .gpio)
  | .got _ => .done () (markReleased l { s with env := { s.env with release := s.env.release.tail } })

/-- `if GPIO[l].held: GpioRelease(l)`. -/
def releaseIfHeld (l : Line) : Act := fun s =>
  if (gpioLine l s).held then gpioRelease l s else .done () s

/-- `for l in (SETTING, POWER): if GPIO[l].held: GpioRelease(l)` (42_motor_calibration.md R208,
43_control_loop.md R240). -/
def releaseHeldLines : Act := runSteps [releaseIfHeld .setting, releaseIfHeld .power]

/-- `SEQ.phase <- p` (10_state.md R27). -/
def setPhase (p : Phase) (s : State) : State := { s with seq := { s.seq with phase := p } }

/-- `CLR <- GetDistance()` (43_control_loop.md R234, 20_memory.md R78). -/
def senseClearance : Act := fun s =>
  match s.env.sensor.head with
  | .hang => .stopped (.blocked .sensor)
  | .got r =>
    .done () (emit (.sense r)
      { s with clr := r, env := { s.env with sensor := s.env.sensor.tail } })

/-- `SemAcquire(); SNAP <- SHM; SemRelease()`, exactly these with nothing between (43_control_loop.md
R235, 20_memory.md R75). SemAcquire may wait for ever (log 7), SemRelease returns (log 40). -/
def copySnapshot : Act := fun s =>
  match s.env.shm.head with
  | .hang => .stopped (.blocked .semaphore)
  | .got snap =>
    .done () (emit .semRel (emit .semAcq
      { s with snap := snap, env := { s.env with shm := s.env.shm.tail } }))

/-- `Exit(code)`, the end of a run (43_control_loop.md R245). -/
def exitRun (code : Nat) (s : State) : State :=
  emit (.exit code) (setPhase (.halted code) { s with runActive := false })

/-- A bus frame issued by itself (log 15). -/
def issueFrame (a : Act) (s : State) : Host.Outcome State Fault Refusal :=
  (needHandle a s).outcome

/-- A REGRD frame issued by itself: the byte it answers stands in TR (log 15). -/
def readFrame (r : Byte) : Act := fun s => (regRead r s).andThen fun _ s' => .done () s'

end Sys2Proof.Machine
end

