-- ==== Sys2Proof/Machine/Mapper.lean ====
section
/-! DEFINITION. The Channel Duty-Cycle Mapper (41_duty_mapper.md): MAP. -/
namespace Sys2Proof.Machine

/-- `MAP(c, w)` as the block's own caller uses it: the duty, or OutOfRangeError for the fraction. It writes
no result register (41_duty_mapper.md R182). -/
def mapChannel (c : Channel) (w : F32) (s : State) : Res Duty :=
  match mapDuty (s.cfg.cal.get c) w with
  | some d => .done d s
  | none => raiseErr .outOfRange (infoWord 0x01 (BitVec.ofNat 8 c.val)) s

/-- MAP with its channel check, the channel before the fraction (41_duty_mapper.md R182, R183). -/
def mapOp (c : Byte) (w : F32) : Act := fun s =>
  if c.toNat > 15 then raiseErr .outOfRange (infoWord 0x00 c) s
  else (mapChannel (Fin.ofNat 16 c.toNat) w s).andThen fun d s' =>
    .done () { s' with resDuty := d, resDutyWritten := true }

/-- MAP, operation code 0x6 (41_duty_mapper.md R182). -/
def execMap (s : State) : Host.Outcome State Fault Refusal :=
  (mapOp s.argCh s.argFrac (clearErr s)).outcome

end Sys2Proof.Machine
end

