-- ==== Sys2Proof/Machine/Protocol.lean ====
section
/-! DEFINITION. The Register Protocol Layer (40_register_protocol.md): PRESC, OPEN, RESET, WRCH, RDALL. -/
namespace Sys2Proof.Machine

/-- The sequence of RESET: the SWRST frame and its settle wait (40_register_protocol.md R143). -/
def resetOp : Act := runSteps [swrst, delay .settle]

/-- Steps 5 to 10 of OPEN, for the prescale PRESC computed (40_register_protocol.md R142). -/
def configureChip (cfg : Config) (p : Byte) : Act :=
  runSteps [regWrite regPrescale p, regWrite regMode1 cfg.m1Wake, delay .wake,
    regWrite regMode1 cfg.m1Run, regWrite regMode2 cfg.m2Init]

/-- Steps 3 to 11 of OPEN on an open connection (40_register_protocol.md R142). -/
def initChip (conn : Nat) : Act := fun s =>
  (resetOp s).andThen fun _ s1 =>
    match prescaleOf s.cfg.freqHz with
    | none => raiseErr .outOfRange (infoWord 0x02 0x00) s1
    | some p =>
      (configureChip s.cfg p s1).andThen fun _ s2 => .done () { s2 with handle := some ⟨conn, p⟩ }

/-- "on a raise in steps 3 to 10: BusClose(conn); HANDLE stays None" (40_register_protocol.md R142). -/
def closeOnRaise (r : Res Unit) : Res Unit :=
  match r with
  | .done _ s => .done () s
  | .raised e s => .raised e (busClose s)
  | .stopped f => .stopped f

/-- Step 0 of OPEN: an open handle is closed first (40_register_protocol.md R142). -/
def closeHandle (s : State) : State :=
  match s.handle with
  | none => s
  | some _ => { busClose s with handle := none }

/-- OPEN (40_register_protocol.md R142). -/
def openOp : Act := fun s =>
  let s0 := closeHandle s
  let s1 := { s0 with env := { s0.env with storage := s0.env.storage.tail } }
  if s0.env.storage.head then
    (busOpen s1).andThen fun conn s2 => closeOnRaise (initChip conn s2)
  else raiseErr .allocation (infoWord 0x00 0x00) s1

/-- The four writes of WRCH for a legal channel, in the fixed order (40_register_protocol.md R144, R149). -/
def writeEdges (cfg : Config) (c : Channel) (d : Duty) : Act :=
  runSteps (edgeOrder.map fun x => regWrite (edgeAddr cfg c x) (edgeData d x))

/-- `WRCH(c, d)` for a channel of the block (40_register_protocol.md R144). -/
def writeChannel (c : Channel) (d : Duty) : Act := fun s => writeEdges s.cfg c d s

/-- WRCH with its range check (40_register_protocol.md R144). -/
def wrchOp (c : Byte) (d : Duty) : Act := fun s =>
  if c.toNat > 15 then raiseErr .outOfRange (infoWord 0x00 c) s
  else writeChannel (Fin.ofNat 16 c.toNat) d s

/-- Registers read one after another (40_register_protocol.md R145). -/
def readRegs : List Byte → State → Res (List Byte)
  | [], s => .done [] s
  | r :: rest, s =>
    (regRead r s).andThen fun b s1 => (readRegs rest s1).andThen fun bs s2 => .done (b :: bs) s2

/-- RDALL (40_register_protocol.md R145). -/
def rdallOp : Act := fun s =>
  (readRegs (readAllOrder s.cfg) s).andThen fun bytes s' =>
    .done () { s' with resSnap := bytes, resSnapWritten := true }

/-- PRESC (40_register_protocol.md R141). -/
def prescOp (freq : BitVec 32) : Act := fun s =>
  match prescaleOf freq.toNat with
  | none => raiseErr .outOfRange (infoWord 0x02 0x00) s
  | some p => .done () { s with resPresc := p, resPrescWritten := true }

/-- OPEN, operation code 0x1 (40_register_protocol.md R142). -/
def execOpen (s : State) : Host.Outcome State Fault Refusal := (openOp (clearErr s)).outcome

/-- RESET, operation code 0x2 (40_register_protocol.md R143). -/
def execReset (s : State) : Host.Outcome State Fault Refusal :=
  (needHandle resetOp (clearErr s)).outcome

/-- WRCH, operation code 0x3 (40_register_protocol.md R144; ARG_DUTY[15:12] not 0 is reserved,
30_encoding.md R112; the order of the refusals, log 18). -/
def execWrch (s : State) : Host.Outcome State Fault Refusal :=
  if s.argDuty.extractLsb' 12 4 ≠ 0#4 then (refuseReserved s : Res Unit).outcome
  else (needHandle (wrchOp s.argCh (s.argDuty.extractLsb' 0 12)) (clearErr s)).outcome

/-- RDALL, operation code 0x4 (40_register_protocol.md R145). -/
def execRdall (s : State) : Host.Outcome State Fault Refusal :=
  (needHandle rdallOp (clearErr s)).outcome

/-- PRESC, operation code 0x5 (40_register_protocol.md R141). -/
def execPresc (s : State) : Host.Outcome State Fault Refusal :=
  (prescOp s.argFreq (clearErr s)).outcome

end Sys2Proof.Machine
end

