-- ==== Sys2Proof/Machine/Calibration.lean ====
section
/-! DEFINITION. The Motor Calibration State Machine (42_motor_calibration.md): CAL. -/
namespace Sys2Proof.Machine

/-- `MotorWrite(w)` (42_motor_calibration.md R201). -/
def motorWrite (w : F32) : Act := fun s =>
  (mapChannel s.cfg.motorCh w s).andThen fun d s' => writeChannel s'.cfg.motorCh d s'

/-- `Pulse()` in a transition (42_motor_calibration.md R201). -/
def pulse (transition : Byte) : List Act :=
  [gpioWrite transition .setting true, delay .pulse, gpioWrite transition .setting false, delay .learn]

/-- `MCS <- m`. -/
def setMcs (m : Mcs) : Act := fun s => .done () { s with mcs := m }

/-- T1, NotStarted to PowerOn (42_motor_calibration.md R203). -/
def calT1 (cfg : Config) : List Act :=
  (if cfg.powerLinePresent then [gpioRequest 1 .power, gpioWrite 1 .power true] else []) ++
    [gpioRequest 1 .setting, gpioWrite 1 .setting true, delay .hold, setMcs (.inProgress .powerOn)]

/-- T2, PowerOn to NeutralSet (42_motor_calibration.md R204). -/
def calT2 : List Act :=
  [gpioWrite 2 .setting false, motorWrite neutralWord] ++ pulse 2 ++ [setMcs (.inProgress .neutralSet)]

/-- T3, NeutralSet to MaxSet (42_motor_calibration.md R205). -/
def calT3 : List Act := motorWrite oneWord :: (pulse 3 ++ [setMcs (.inProgress .maxSet)])

/-- T4, MaxSet to MinSet (42_motor_calibration.md R206). -/
def calT4 : List Act := motorWrite zeroWord :: (pulse 4 ++ [setMcs (.inProgress .minSet)])

/-- T5, MinSet to Done (42_motor_calibration.md R207). -/
def calT5 (cfg : Config) : List Act :=
  (if cfg.gpioTransient then
    gpioRelease .setting :: (if cfg.powerLinePresent then [gpioRelease .power] else [])
  else []) ++ [setMcs .done]

/-- The five transitions (42_motor_calibration.md R202). -/
def handshake (cfg : Config) : List Act :=
  calT1 cfg ++ calT2 ++ calT3 ++ calT4 ++ calT5 cfg

/-- `Abort(kind, info)` (42_motor_calibration.md R208, R209): held lines released, MCS NotStarted, the
phase restored, one log event, and the error raised on. -/
def abortCal (entered : Phase) (e : Raise) (s : State) : Res Unit :=
  (releaseHeldLines s).andThen fun _ s' =>
    raiseErr e.kind e.info
      (logEvent .calAbort e.info (setPhase entered { s' with mcs := .notStarted }))

/-- The handshake from a phase: back to that phase when it ends, aborted on a failure
(42_motor_calibration.md R202). -/
def runHandshake : Act := fun s =>
  match runSteps (handshake s.cfg) (setPhase .calibrating s) with
  | .done _ s' => .done () (setPhase s.seq.phase s')
  | .raised e s' => abortCal s.seq.phase e s'
  | .stopped f => .stopped f

/-- CAL (42_motor_calibration.md R202, R211, R212). -/
def calOp : Act := fun s =>
  if s.mcs = .done then .done () s
  else if s.cfg.requiresHandshake then
    match s.handle with
    | none => refuseNoHandle s
    | some _ => runHandshake { s with calAttempted := true }
  else .done () { s with calAttempted := true, mcs := .done }

/-- CAL, operation code 0x7 (42_motor_calibration.md R202). -/
def execCal (s : State) : Host.Outcome State Fault Refusal := (calOp (clearErr s)).outcome

end Sys2Proof.Machine
end

