-- ==== Sys2Proof/Machine/Loop.lean ====
section
/-! DEFINITION. The Control Loop and the safety-override arbiter (43_control_loop.md): SHUTDOWN, TICK,
RUN. -/
namespace Sys2Proof.Machine

/-- "on ResetError: Log(RESET_FAIL); continue" (43_control_loop.md R240). -/
def logResetFail (_e : Raise) (s : State) : State := logEvent .resetFail 0 s

/-- The best-effort reset of SHUTDOWN (43_control_loop.md R240). -/
def shutdownReset : Act := fun s =>
  match s.handle with
  | none => .done () s
  | some _ => ((resetOp s).absorb logResetFail).andThen fun _ s' =>
      .done () { busClose s' with handle := none }

/-- SHUTDOWN (43_control_loop.md R240). -/
def shutdownOp : Act := fun s =>
  (shutdownReset (setPhase .shuttingDown s)).andThen fun _ s' =>
    (releaseHeldLines s').andThen fun _ s'' => .done () (exitRun 0 s'')

/-- An error the caller does nothing about: it stands in ERR, and what raised it has logged it
(60_exceptions.md R279). -/
def keepGoing (_e : Raise) (s : State) : State := s

/-- The channel number as the operand of a log event (60_exceptions.md R288). -/
def channelInfo (c : Channel) : BitVec 16 := BitVec.ofNat 16 c.val

/-- The first-motor-write trigger of `ChannelWrite` (43_control_loop.md R238, D23). -/
def lazyCal (lazy : Bool) : Act := fun s =>
  if lazy = true ∧ s.cfg.calPolicy = .onFirstMotorWrite ∧ s.calAttempted = false then
    (calOp s).absorb keepGoing
  else .done () s

/-- "if MCS ≠ Done: Log(UNCAL, c)" (43_control_loop.md R238). -/
def logUncal (c : Channel) : Act := fun s =>
  .done () (if s.mcs = .done then s else logEvent .uncal (channelInfo c) s)

/-- What `ChannelWrite` does for the motor channel before its write (43_control_loop.md R238, R210). -/
def motorPreamble (c : Channel) (lazy : Bool) : Act := fun s =>
  if c = s.cfg.motorCh ∧ s.mcs ≠ .done then
    (lazyCal lazy s).andThen fun _ s' => logUncal c s'
  else .done () s

/-- `ChannelWrite(c, w, lazy)` (43_control_loop.md R238). -/
def channelWrite (c : Channel) (w : F32) (lazy : Bool) : Act := fun s =>
  match mapChannel c w s with
  | .raised _ s' => .done () (logEvent .range (channelInfo c) s')
  | .stopped f => .stopped f
  | .done d s' => (motorPreamble c lazy s').andThen fun _ s'' =>
      (writeChannel c d s'').absorb fun _ t => logEvent .actFail (channelInfo c) t

/-- The fraction the loop gives a channel: its own where active, neutral otherwise (43_control_loop.md
R232, R237). -/
def commandedFraction (snap : Snapshot) (c : Channel) : F32 :=
  if flagSet (snap.ch.get c).active then (snap.ch.get c).pulseFrac else neutralWord

/-- One pass of step 4 (43_control_loop.md R237): SEQ.idx holds the channel. -/
def actuateChannel (c : Channel) : Act := fun s =>
  channelWrite c (commandedFraction s.snap c) true { s with seq := { s.seq with idx := c } }

/-- Steps 3 and 4 of TICK (43_control_loop.md R236, R237). -/
def actuate : Act := fun s =>
  if flagSet s.snap.valid then runSteps (channels.map actuateChannel) s else .done () s

/-- Steps 2 to 5 of TICK (43_control_loop.md R235 to R239). -/
def normalTick : Act := runSteps [copySnapshot, actuate, delay .tick]

/-- An override tick: the motor channel to neutral, then step 5 (43_control_loop.md R234). -/
def overrideTick : Act := fun s =>
  runSteps [channelWrite s.cfg.motorCh neutralWord false, delay .tick] s

/-- Steps 1 to 5 of TICK (43_control_loop.md R234 to R239). -/
def tickBody : Act := fun s =>
  if s.cfg.sensorConfigured then
    (senseClearance s).andThen fun _ s' =>
      if below s'.clr s'.cfg.minClearance then overrideTick s' else normalTick s'
  else normalTick s

/-- TICK (43_control_loop.md R232, R233). -/
def tickOp : Act := needHandle fun s => if s.term then shutdownOp s else tickBody s

/-- `Fatal(error)` (43_control_loop.md R244): the log carries the error's code (60_exceptions.md R288). -/
def fatal (e : Raise) (s : State) : State :=
  exitRun 1 (logEvent .fatal ((errCode e.kind).setWidth 16) s)

/-- What RUN does after OPEN (43_control_loop.md R230): CALIBRATE calibrates and shuts down, LOOP
calibrates where the policy says so and enters the loop, whose ticks are the following steps (log 13). -/
def afterOpen (calibrate : Bool) : Act := fun s =>
  if calibrate then ((calOp s).absorb keepGoing).andThen fun _ s' => shutdownOp s'
  else
    (if s.cfg.calPolicy = .atStartup then (calOp s).absorb keepGoing else .done () s).andThen
      fun _ s' => .done () (setPhase .running s')

/-- RUN in mode LOOP or CALIBRATE (43_control_loop.md R230, R231): an error of OPEN is fatal. -/
def runOp (calibrate : Bool) : Act := fun s =>
  match openOp (setPhase .init { s with runActive := true }) with
  | .raised e s' => .done () (fatal e s')
  | .stopped f => .stopped f
  | .done _ s' => afterOpen calibrate s'

/-- One iteration of RUN's loop (43_control_loop.md R230): ERR is not cleared between ticks
(10_state.md R29). -/
def loopTick (s : State) : Host.Outcome State Fault Refusal := (tickOp s).outcome

/-- TICK, operation code 0x8 (43_control_loop.md R232). -/
def execTick (s : State) : Host.Outcome State Fault Refusal := (tickOp (clearErr s)).outcome

/-- RUN, operation code 0x9 (43_control_loop.md R230): ARG_MODE 0 LOOP, 1 CALIBRATE, 2 SENSOR_TEST
refused (log 19), 3 reserved (30_encoding.md R112). -/
def execRun (s : State) : Host.Outcome State Fault Refusal :=
  match s.argMode.toNat with
  | 0 => (runOp false (clearErr s)).outcome
  | 1 => (runOp true (clearErr s)).outcome
  | 2 => .refused .sensorTest
  | _ => (refuseReserved s : Res Unit).outcome

/-- SHUTDOWN, operation code 0xA (43_control_loop.md R240). -/
def execShutdown (s : State) : Host.Outcome State Fault Refusal := (shutdownOp (clearErr s)).outcome

end Sys2Proof.Machine
end

