-- ==== Sys2Proof/Machine/ReadFrames.lean ====
section
/-! DEFINITION. The read frames of 30_encoding.md R106: the 67 RD rows, each one frame put on the bus by
itself (20_memory.md R65; log 15). -/
namespace Sys2Proof.Machine

/-- RD.MODE1 (40_register_protocol.md R145, byte 0). -/
def execRdMode1 (s : State) : Host.Outcome State Fault Refusal := issueFrame (readFrame regMode1) s

/-- RD.MODE2 (40_register_protocol.md R145, byte 1). -/
def execRdMode2 (s : State) : Host.Outcome State Fault Refusal := issueFrame (readFrame regMode2) s

/-- RD.PRESCALE (40_register_protocol.md R145, byte 2). -/
def execRdPrescale (s : State) : Host.Outcome State Fault Refusal :=
  issueFrame (readFrame regPrescale) s

/-- One RD.CHc.X frame (40_register_protocol.md R145). -/
def edgeReadFrame (c : Channel) (x : Edge) (s : State) : Host.Outcome State Fault Refusal :=
  issueFrame (readFrame (edgeAddr s.cfg c x)) s

/-- RD.CH0.ON_L (40_register_protocol.md R145, byte 3). -/
def execRdCh0OnL (s : State) : Host.Outcome State Fault Refusal := edgeReadFrame 0 .onL s

/-- RD.CH0.ON_H (40_register_protocol.md R145, byte 4). -/
def execRdCh0OnH (s : State) : Host.Outcome State Fault Refusal := edgeReadFrame 0 .onH s

/-- RD.CH0.OFF_L (40_register_protocol.md R145, byte 5). -/
def execRdCh0OffL (s : State) : Host.Outcome State Fault Refusal := edgeReadFrame 0 .offL s

/-- RD.CH0.OFF_H (40_register_protocol.md R145, byte 6). -/
def execRdCh0OffH (s : State) : Host.Outcome State Fault Refusal := edgeReadFrame 0 .offH s

/-- RD.CH1.ON_L (40_register_protocol.md R145, byte 7). -/
def execRdCh1OnL (s : State) : Host.Outcome State Fault Refusal := edgeReadFrame 1 .onL s

/-- RD.CH1.ON_H (40_register_protocol.md R145, byte 8). -/
def execRdCh1OnH (s : State) : Host.Outcome State Fault Refusal := edgeReadFrame 1 .onH s

/-- RD.CH1.OFF_L (40_register_protocol.md R145, byte 9). -/
def execRdCh1OffL (s : State) : Host.Outcome State Fault Refusal := edgeReadFrame 1 .offL s

/-- RD.CH1.OFF_H (40_register_protocol.md R145, byte 10). -/
def execRdCh1OffH (s : State) : Host.Outcome State Fault Refusal := edgeReadFrame 1 .offH s

/-- RD.CH2.ON_L (40_register_protocol.md R145, byte 11). -/
def execRdCh2OnL (s : State) : Host.Outcome State Fault Refusal := edgeReadFrame 2 .onL s

/-- RD.CH2.ON_H (40_register_protocol.md R145, byte 12). -/
def execRdCh2OnH (s : State) : Host.Outcome State Fault Refusal := edgeReadFrame 2 .onH s

/-- RD.CH2.OFF_L (40_register_protocol.md R145, byte 13). -/
def execRdCh2OffL (s : State) : Host.Outcome State Fault Refusal := edgeReadFrame 2 .offL s

/-- RD.CH2.OFF_H (40_register_protocol.md R145, byte 14). -/
def execRdCh2OffH (s : State) : Host.Outcome State Fault Refusal := edgeReadFrame 2 .offH s

/-- RD.CH3.ON_L (40_register_protocol.md R145, byte 15). -/
def execRdCh3OnL (s : State) : Host.Outcome State Fault Refusal := edgeReadFrame 3 .onL s

/-- RD.CH3.ON_H (40_register_protocol.md R145, byte 16). -/
def execRdCh3OnH (s : State) : Host.Outcome State Fault Refusal := edgeReadFrame 3 .onH s

/-- RD.CH3.OFF_L (40_register_protocol.md R145, byte 17). -/
def execRdCh3OffL (s : State) : Host.Outcome State Fault Refusal := edgeReadFrame 3 .offL s

/-- RD.CH3.OFF_H (40_register_protocol.md R145, byte 18). -/
def execRdCh3OffH (s : State) : Host.Outcome State Fault Refusal := edgeReadFrame 3 .offH s

/-- RD.CH4.ON_L (40_register_protocol.md R145, byte 19). -/
def execRdCh4OnL (s : State) : Host.Outcome State Fault Refusal := edgeReadFrame 4 .onL s

/-- RD.CH4.ON_H (40_register_protocol.md R145, byte 20). -/
def execRdCh4OnH (s : State) : Host.Outcome State Fault Refusal := edgeReadFrame 4 .onH s

/-- RD.CH4.OFF_L (40_register_protocol.md R145, byte 21). -/
def execRdCh4OffL (s : State) : Host.Outcome State Fault Refusal := edgeReadFrame 4 .offL s

/-- RD.CH4.OFF_H (40_register_protocol.md R145, byte 22). -/
def execRdCh4OffH (s : State) : Host.Outcome State Fault Refusal := edgeReadFrame 4 .offH s

/-- RD.CH5.ON_L (40_register_protocol.md R145, byte 23). -/
def execRdCh5OnL (s : State) : Host.Outcome State Fault Refusal := edgeReadFrame 5 .onL s

/-- RD.CH5.ON_H (40_register_protocol.md R145, byte 24). -/
def execRdCh5OnH (s : State) : Host.Outcome State Fault Refusal := edgeReadFrame 5 .onH s

/-- RD.CH5.OFF_L (40_register_protocol.md R145, byte 25). -/
def execRdCh5OffL (s : State) : Host.Outcome State Fault Refusal := edgeReadFrame 5 .offL s

/-- RD.CH5.OFF_H (40_register_protocol.md R145, byte 26). -/
def execRdCh5OffH (s : State) : Host.Outcome State Fault Refusal := edgeReadFrame 5 .offH s

/-- RD.CH6.ON_L (40_register_protocol.md R145, byte 27). -/
def execRdCh6OnL (s : State) : Host.Outcome State Fault Refusal := edgeReadFrame 6 .onL s

/-- RD.CH6.ON_H (40_register_protocol.md R145, byte 28). -/
def execRdCh6OnH (s : State) : Host.Outcome State Fault Refusal := edgeReadFrame 6 .onH s

/-- RD.CH6.OFF_L (40_register_protocol.md R145, byte 29). -/
def execRdCh6OffL (s : State) : Host.Outcome State Fault Refusal := edgeReadFrame 6 .offL s

/-- RD.CH6.OFF_H (40_register_protocol.md R145, byte 30). -/
def execRdCh6OffH (s : State) : Host.Outcome State Fault Refusal := edgeReadFrame 6 .offH s

/-- RD.CH7.ON_L (40_register_protocol.md R145, byte 31). -/
def execRdCh7OnL (s : State) : Host.Outcome State Fault Refusal := edgeReadFrame 7 .onL s

/-- RD.CH7.ON_H (40_register_protocol.md R145, byte 32). -/
def execRdCh7OnH (s : State) : Host.Outcome State Fault Refusal := edgeReadFrame 7 .onH s

/-- RD.CH7.OFF_L (40_register_protocol.md R145, byte 33). -/
def execRdCh7OffL (s : State) : Host.Outcome State Fault Refusal := edgeReadFrame 7 .offL s

/-- RD.CH7.OFF_H (40_register_protocol.md R145, byte 34). -/
def execRdCh7OffH (s : State) : Host.Outcome State Fault Refusal := edgeReadFrame 7 .offH s

/-- RD.CH8.ON_L (40_register_protocol.md R145, byte 35). -/
def execRdCh8OnL (s : State) : Host.Outcome State Fault Refusal := edgeReadFrame 8 .onL s

/-- RD.CH8.ON_H (40_register_protocol.md R145, byte 36). -/
def execRdCh8OnH (s : State) : Host.Outcome State Fault Refusal := edgeReadFrame 8 .onH s

/-- RD.CH8.OFF_L (40_register_protocol.md R145, byte 37). -/
def execRdCh8OffL (s : State) : Host.Outcome State Fault Refusal := edgeReadFrame 8 .offL s

/-- RD.CH8.OFF_H (40_register_protocol.md R145, byte 38). -/
def execRdCh8OffH (s : State) : Host.Outcome State Fault Refusal := edgeReadFrame 8 .offH s

/-- RD.CH9.ON_L (40_register_protocol.md R145, byte 39). -/
def execRdCh9OnL (s : State) : Host.Outcome State Fault Refusal := edgeReadFrame 9 .onL s

/-- RD.CH9.ON_H (40_register_protocol.md R145, byte 40). -/
def execRdCh9OnH (s : State) : Host.Outcome State Fault Refusal := edgeReadFrame 9 .onH s

/-- RD.CH9.OFF_L (40_register_protocol.md R145, byte 41). -/
def execRdCh9OffL (s : State) : Host.Outcome State Fault Refusal := edgeReadFrame 9 .offL s

/-- RD.CH9.OFF_H (40_register_protocol.md R145, byte 42). -/
def execRdCh9OffH (s : State) : Host.Outcome State Fault Refusal := edgeReadFrame 9 .offH s

/-- RD.CH10.ON_L (40_register_protocol.md R145, byte 43). -/
def execRdCh10OnL (s : State) : Host.Outcome State Fault Refusal := edgeReadFrame 10 .onL s

/-- RD.CH10.ON_H (40_register_protocol.md R145, byte 44). -/
def execRdCh10OnH (s : State) : Host.Outcome State Fault Refusal := edgeReadFrame 10 .onH s

/-- RD.CH10.OFF_L (40_register_protocol.md R145, byte 45). -/
def execRdCh10OffL (s : State) : Host.Outcome State Fault Refusal := edgeReadFrame 10 .offL s

/-- RD.CH10.OFF_H (40_register_protocol.md R145, byte 46). -/
def execRdCh10OffH (s : State) : Host.Outcome State Fault Refusal := edgeReadFrame 10 .offH s

/-- RD.CH11.ON_L (40_register_protocol.md R145, byte 47). -/
def execRdCh11OnL (s : State) : Host.Outcome State Fault Refusal := edgeReadFrame 11 .onL s

/-- RD.CH11.ON_H (40_register_protocol.md R145, byte 48). -/
def execRdCh11OnH (s : State) : Host.Outcome State Fault Refusal := edgeReadFrame 11 .onH s

/-- RD.CH11.OFF_L (40_register_protocol.md R145, byte 49). -/
def execRdCh11OffL (s : State) : Host.Outcome State Fault Refusal := edgeReadFrame 11 .offL s

/-- RD.CH11.OFF_H (40_register_protocol.md R145, byte 50). -/
def execRdCh11OffH (s : State) : Host.Outcome State Fault Refusal := edgeReadFrame 11 .offH s

/-- RD.CH12.ON_L (40_register_protocol.md R145, byte 51). -/
def execRdCh12OnL (s : State) : Host.Outcome State Fault Refusal := edgeReadFrame 12 .onL s

/-- RD.CH12.ON_H (40_register_protocol.md R145, byte 52). -/
def execRdCh12OnH (s : State) : Host.Outcome State Fault Refusal := edgeReadFrame 12 .onH s

/-- RD.CH12.OFF_L (40_register_protocol.md R145, byte 53). -/
def execRdCh12OffL (s : State) : Host.Outcome State Fault Refusal := edgeReadFrame 12 .offL s

/-- RD.CH12.OFF_H (40_register_protocol.md R145, byte 54). -/
def execRdCh12OffH (s : State) : Host.Outcome State Fault Refusal := edgeReadFrame 12 .offH s

/-- RD.CH13.ON_L (40_register_protocol.md R145, byte 55). -/
def execRdCh13OnL (s : State) : Host.Outcome State Fault Refusal := edgeReadFrame 13 .onL s

/-- RD.CH13.ON_H (40_register_protocol.md R145, byte 56). -/
def execRdCh13OnH (s : State) : Host.Outcome State Fault Refusal := edgeReadFrame 13 .onH s

/-- RD.CH13.OFF_L (40_register_protocol.md R145, byte 57). -/
def execRdCh13OffL (s : State) : Host.Outcome State Fault Refusal := edgeReadFrame 13 .offL s

/-- RD.CH13.OFF_H (40_register_protocol.md R145, byte 58). -/
def execRdCh13OffH (s : State) : Host.Outcome State Fault Refusal := edgeReadFrame 13 .offH s

/-- RD.CH14.ON_L (40_register_protocol.md R145, byte 59). -/
def execRdCh14OnL (s : State) : Host.Outcome State Fault Refusal := edgeReadFrame 14 .onL s

/-- RD.CH14.ON_H (40_register_protocol.md R145, byte 60). -/
def execRdCh14OnH (s : State) : Host.Outcome State Fault Refusal := edgeReadFrame 14 .onH s

/-- RD.CH14.OFF_L (40_register_protocol.md R145, byte 61). -/
def execRdCh14OffL (s : State) : Host.Outcome State Fault Refusal := edgeReadFrame 14 .offL s

/-- RD.CH14.OFF_H (40_register_protocol.md R145, byte 62). -/
def execRdCh14OffH (s : State) : Host.Outcome State Fault Refusal := edgeReadFrame 14 .offH s

/-- RD.CH15.ON_L (40_register_protocol.md R145, byte 63). -/
def execRdCh15OnL (s : State) : Host.Outcome State Fault Refusal := edgeReadFrame 15 .onL s

/-- RD.CH15.ON_H (40_register_protocol.md R145, byte 64). -/
def execRdCh15OnH (s : State) : Host.Outcome State Fault Refusal := edgeReadFrame 15 .onH s

/-- RD.CH15.OFF_L (40_register_protocol.md R145, byte 65). -/
def execRdCh15OffL (s : State) : Host.Outcome State Fault Refusal := edgeReadFrame 15 .offL s

/-- RD.CH15.OFF_H (40_register_protocol.md R145, byte 66). -/
def execRdCh15OffH (s : State) : Host.Outcome State Fault Refusal := edgeReadFrame 15 .offH s

end Sys2Proof.Machine
end

