-- ==== Sys2Proof/Machine/WriteFrames.lean ====
section
/-! DEFINITION. The write frames of 30_encoding.md R106: SWRST and the 68 WR rows, each one frame put on
the bus by itself (20_memory.md R64, R66; log 15). -/
namespace Sys2Proof.Machine

/-- SWRST (20_memory.md R66). -/
def execSwrst (s : State) : Host.Outcome State Fault Refusal := issueFrame swrst s

/-- WR.PRESCALE (40_register_protocol.md R142 step 6). -/
def execWrPrescale (prescale : Byte) (s : State) : Host.Outcome State Fault Refusal :=
  issueFrame (regWrite regPrescale prescale) s

/-- WR.MODE1.WAKE (40_register_protocol.md R142 step 7). -/
def execWrMode1Wake (s : State) : Host.Outcome State Fault Refusal :=
  issueFrame (regWrite regMode1 s.cfg.m1Wake) s

/-- WR.MODE1.RUN (40_register_protocol.md R142 step 9). -/
def execWrMode1Run (s : State) : Host.Outcome State Fault Refusal :=
  issueFrame (regWrite regMode1 s.cfg.m1Run) s

/-- WR.MODE2 (40_register_protocol.md R142 step 10). -/
def execWrMode2 (s : State) : Host.Outcome State Fault Refusal :=
  issueFrame (regWrite regMode2 s.cfg.m2Init) s

/-- One WR.CHc.X frame (40_register_protocol.md R144, 30_encoding.md R104). -/
def edgeFrame (c : Channel) (x : Edge) (v : Byte) (s : State) : Host.Outcome State Fault Refusal :=
  issueFrame (regWrite (edgeAddr s.cfg c x) v) s

/-- WR.CH0.ON_L (30_encoding.md R104, R106). -/
def execWrCh0OnL (s : State) : Host.Outcome State Fault Refusal := edgeFrame 0 .onL 0x00#8 s

/-- WR.CH0.ON_H (30_encoding.md R104, R106). -/
def execWrCh0OnH (s : State) : Host.Outcome State Fault Refusal := edgeFrame 0 .onH 0x00#8 s

/-- WR.CH0.OFF_L (30_encoding.md R104, R106). -/
def execWrCh0OffL (dLo : Byte) (s : State) : Host.Outcome State Fault Refusal := edgeFrame 0 .offL dLo s

/-- WR.CH0.OFF_H (30_encoding.md R104, R106). -/
def execWrCh0OffH (dHi : BitVec 4) (s : State) : Host.Outcome State Fault Refusal := edgeFrame 0 .offH (offHighByte dHi) s

/-- WR.CH1.ON_L (30_encoding.md R104, R106). -/
def execWrCh1OnL (s : State) : Host.Outcome State Fault Refusal := edgeFrame 1 .onL 0x00#8 s

/-- WR.CH1.ON_H (30_encoding.md R104, R106). -/
def execWrCh1OnH (s : State) : Host.Outcome State Fault Refusal := edgeFrame 1 .onH 0x00#8 s

/-- WR.CH1.OFF_L (30_encoding.md R104, R106). -/
def execWrCh1OffL (dLo : Byte) (s : State) : Host.Outcome State Fault Refusal := edgeFrame 1 .offL dLo s

/-- WR.CH1.OFF_H (30_encoding.md R104, R106). -/
def execWrCh1OffH (dHi : BitVec 4) (s : State) : Host.Outcome State Fault Refusal := edgeFrame 1 .offH (offHighByte dHi) s

/-- WR.CH2.ON_L (30_encoding.md R104, R106). -/
def execWrCh2OnL (s : State) : Host.Outcome State Fault Refusal := edgeFrame 2 .onL 0x00#8 s

/-- WR.CH2.ON_H (30_encoding.md R104, R106). -/
def execWrCh2OnH (s : State) : Host.Outcome State Fault Refusal := edgeFrame 2 .onH 0x00#8 s

/-- WR.CH2.OFF_L (30_encoding.md R104, R106). -/
def execWrCh2OffL (dLo : Byte) (s : State) : Host.Outcome State Fault Refusal := edgeFrame 2 .offL dLo s

/-- WR.CH2.OFF_H (30_encoding.md R104, R106). -/
def execWrCh2OffH (dHi : BitVec 4) (s : State) : Host.Outcome State Fault Refusal := edgeFrame 2 .offH (offHighByte dHi) s

/-- WR.CH3.ON_L (30_encoding.md R104, R106). -/
def execWrCh3OnL (s : State) : Host.Outcome State Fault Refusal := edgeFrame 3 .onL 0x00#8 s

/-- WR.CH3.ON_H (30_encoding.md R104, R106). -/
def execWrCh3OnH (s : State) : Host.Outcome State Fault Refusal := edgeFrame 3 .onH 0x00#8 s

/-- WR.CH3.OFF_L (30_encoding.md R104, R106). -/
def execWrCh3OffL (dLo : Byte) (s : State) : Host.Outcome State Fault Refusal := edgeFrame 3 .offL dLo s

/-- WR.CH3.OFF_H (30_encoding.md R104, R106). -/
def execWrCh3OffH (dHi : BitVec 4) (s : State) : Host.Outcome State Fault Refusal := edgeFrame 3 .offH (offHighByte dHi) s

/-- WR.CH4.ON_L (30_encoding.md R104, R106). -/
def execWrCh4OnL (s : State) : Host.Outcome State Fault Refusal := edgeFrame 4 .onL 0x00#8 s

/-- WR.CH4.ON_H (30_encoding.md R104, R106). -/
def execWrCh4OnH (s : State) : Host.Outcome State Fault Refusal := edgeFrame 4 .onH 0x00#8 s

/-- WR.CH4.OFF_L (30_encoding.md R104, R106). -/
def execWrCh4OffL (dLo : Byte) (s : State) : Host.Outcome State Fault Refusal := edgeFrame 4 .offL dLo s

/-- WR.CH4.OFF_H (30_encoding.md R104, R106). -/
def execWrCh4OffH (dHi : BitVec 4) (s : State) : Host.Outcome State Fault Refusal := edgeFrame 4 .offH (offHighByte dHi) s

/-- WR.CH5.ON_L (30_encoding.md R104, R106). -/
def execWrCh5OnL (s : State) : Host.Outcome State Fault Refusal := edgeFrame 5 .onL 0x00#8 s

/-- WR.CH5.ON_H (30_encoding.md R104, R106). -/
def execWrCh5OnH (s : State) : Host.Outcome State Fault Refusal := edgeFrame 5 .onH 0x00#8 s

/-- WR.CH5.OFF_L (30_encoding.md R104, R106). -/
def execWrCh5OffL (dLo : Byte) (s : State) : Host.Outcome State Fault Refusal := edgeFrame 5 .offL dLo s

/-- WR.CH5.OFF_H (30_encoding.md R104, R106). -/
def execWrCh5OffH (dHi : BitVec 4) (s : State) : Host.Outcome State Fault Refusal := edgeFrame 5 .offH (offHighByte dHi) s

/-- WR.CH6.ON_L (30_encoding.md R104, R106). -/
def execWrCh6OnL (s : State) : Host.Outcome State Fault Refusal := edgeFrame 6 .onL 0x00#8 s

/-- WR.CH6.ON_H (30_encoding.md R104, R106). -/
def execWrCh6OnH (s : State) : Host.Outcome State Fault Refusal := edgeFrame 6 .onH 0x00#8 s

/-- WR.CH6.OFF_L (30_encoding.md R104, R106). -/
def execWrCh6OffL (dLo : Byte) (s : State) : Host.Outcome State Fault Refusal := edgeFrame 6 .offL dLo s

/-- WR.CH6.OFF_H (30_encoding.md R104, R106). -/
def execWrCh6OffH (dHi : BitVec 4) (s : State) : Host.Outcome State Fault Refusal := edgeFrame 6 .offH (offHighByte dHi) s

/-- WR.CH7.ON_L (30_encoding.md R104, R106). -/
def execWrCh7OnL (s : State) : Host.Outcome State Fault Refusal := edgeFrame 7 .onL 0x00#8 s

/-- WR.CH7.ON_H (30_encoding.md R104, R106). -/
def execWrCh7OnH (s : State) : Host.Outcome State Fault Refusal := edgeFrame 7 .onH 0x00#8 s

/-- WR.CH7.OFF_L (30_encoding.md R104, R106). -/
def execWrCh7OffL (dLo : Byte) (s : State) : Host.Outcome State Fault Refusal := edgeFrame 7 .offL dLo s

/-- WR.CH7.OFF_H (30_encoding.md R104, R106). -/
def execWrCh7OffH (dHi : BitVec 4) (s : State) : Host.Outcome State Fault Refusal := edgeFrame 7 .offH (offHighByte dHi) s

/-- WR.CH8.ON_L (30_encoding.md R104, R106). -/
def execWrCh8OnL (s : State) : Host.Outcome State Fault Refusal := edgeFrame 8 .onL 0x00#8 s

/-- WR.CH8.ON_H (30_encoding.md R104, R106). -/
def execWrCh8OnH (s : State) : Host.Outcome State Fault Refusal := edgeFrame 8 .onH 0x00#8 s

/-- WR.CH8.OFF_L (30_encoding.md R104, R106). -/
def execWrCh8OffL (dLo : Byte) (s : State) : Host.Outcome State Fault Refusal := edgeFrame 8 .offL dLo s

/-- WR.CH8.OFF_H (30_encoding.md R104, R106). -/
def execWrCh8OffH (dHi : BitVec 4) (s : State) : Host.Outcome State Fault Refusal := edgeFrame 8 .offH (offHighByte dHi) s

/-- WR.CH9.ON_L (30_encoding.md R104, R106). -/
def execWrCh9OnL (s : State) : Host.Outcome State Fault Refusal := edgeFrame 9 .onL 0x00#8 s

/-- WR.CH9.ON_H (30_encoding.md R104, R106). -/
def execWrCh9OnH (s : State) : Host.Outcome State Fault Refusal := edgeFrame 9 .onH 0x00#8 s

/-- WR.CH9.OFF_L (30_encoding.md R104, R106). -/
def execWrCh9OffL (dLo : Byte) (s : State) : Host.Outcome State Fault Refusal := edgeFrame 9 .offL dLo s

/-- WR.CH9.OFF_H (30_encoding.md R104, R106). -/
def execWrCh9OffH (dHi : BitVec 4) (s : State) : Host.Outcome State Fault Refusal := edgeFrame 9 .offH (offHighByte dHi) s

/-- WR.CH10.ON_L (30_encoding.md R104, R106). -/
def execWrCh10OnL (s : State) : Host.Outcome State Fault Refusal := edgeFrame 10 .onL 0x00#8 s

/-- WR.CH10.ON_H (30_encoding.md R104, R106). -/
def execWrCh10OnH (s : State) : Host.Outcome State Fault Refusal := edgeFrame 10 .onH 0x00#8 s

/-- WR.CH10.OFF_L (30_encoding.md R104, R106). -/
def execWrCh10OffL (dLo : Byte) (s : State) : Host.Outcome State Fault Refusal := edgeFrame 10 .offL dLo s

/-- WR.CH10.OFF_H (30_encoding.md R104, R106). -/
def execWrCh10OffH (dHi : BitVec 4) (s : State) : Host.Outcome State Fault Refusal := edgeFrame 10 .offH (offHighByte dHi) s

/-- WR.CH11.ON_L (30_encoding.md R104, R106). -/
def execWrCh11OnL (s : State) : Host.Outcome State Fault Refusal := edgeFrame 11 .onL 0x00#8 s

/-- WR.CH11.ON_H (30_encoding.md R104, R106). -/
def execWrCh11OnH (s : State) : Host.Outcome State Fault Refusal := edgeFrame 11 .onH 0x00#8 s

/-- WR.CH11.OFF_L (30_encoding.md R104, R106). -/
def execWrCh11OffL (dLo : Byte) (s : State) : Host.Outcome State Fault Refusal := edgeFrame 11 .offL dLo s

/-- WR.CH11.OFF_H (30_encoding.md R104, R106). -/
def execWrCh11OffH (dHi : BitVec 4) (s : State) : Host.Outcome State Fault Refusal := edgeFrame 11 .offH (offHighByte dHi) s

/-- WR.CH12.ON_L (30_encoding.md R104, R106). -/
def execWrCh12OnL (s : State) : Host.Outcome State Fault Refusal := edgeFrame 12 .onL 0x00#8 s

/-- WR.CH12.ON_H (30_encoding.md R104, R106). -/
def execWrCh12OnH (s : State) : Host.Outcome State Fault Refusal := edgeFrame 12 .onH 0x00#8 s

/-- WR.CH12.OFF_L (30_encoding.md R104, R106). -/
def execWrCh12OffL (dLo : Byte) (s : State) : Host.Outcome State Fault Refusal := edgeFrame 12 .offL dLo s

/-- WR.CH12.OFF_H (30_encoding.md R104, R106). -/
def execWrCh12OffH (dHi : BitVec 4) (s : State) : Host.Outcome State Fault Refusal := edgeFrame 12 .offH (offHighByte dHi) s

/-- WR.CH13.ON_L (30_encoding.md R104, R106). -/
def execWrCh13OnL (s : State) : Host.Outcome State Fault Refusal := edgeFrame 13 .onL 0x00#8 s

/-- WR.CH13.ON_H (30_encoding.md R104, R106). -/
def execWrCh13OnH (s : State) : Host.Outcome State Fault Refusal := edgeFrame 13 .onH 0x00#8 s

/-- WR.CH13.OFF_L (30_encoding.md R104, R106). -/
def execWrCh13OffL (dLo : Byte) (s : State) : Host.Outcome State Fault Refusal := edgeFrame 13 .offL dLo s

/-- WR.CH13.OFF_H (30_encoding.md R104, R106). -/
def execWrCh13OffH (dHi : BitVec 4) (s : State) : Host.Outcome State Fault Refusal := edgeFrame 13 .offH (offHighByte dHi) s

/-- WR.CH14.ON_L (30_encoding.md R104, R106). -/
def execWrCh14OnL (s : State) : Host.Outcome State Fault Refusal := edgeFrame 14 .onL 0x00#8 s

/-- WR.CH14.ON_H (30_encoding.md R104, R106). -/
def execWrCh14OnH (s : State) : Host.Outcome State Fault Refusal := edgeFrame 14 .onH 0x00#8 s

/-- WR.CH14.OFF_L (30_encoding.md R104, R106). -/
def execWrCh14OffL (dLo : Byte) (s : State) : Host.Outcome State Fault Refusal := edgeFrame 14 .offL dLo s

/-- WR.CH14.OFF_H (30_encoding.md R104, R106). -/
def execWrCh14OffH (dHi : BitVec 4) (s : State) : Host.Outcome State Fault Refusal := edgeFrame 14 .offH (offHighByte dHi) s

/-- WR.CH15.ON_L (30_encoding.md R104, R106). -/
def execWrCh15OnL (s : State) : Host.Outcome State Fault Refusal := edgeFrame 15 .onL 0x00#8 s

/-- WR.CH15.ON_H (30_encoding.md R104, R106). -/
def execWrCh15OnH (s : State) : Host.Outcome State Fault Refusal := edgeFrame 15 .onH 0x00#8 s

/-- WR.CH15.OFF_L (30_encoding.md R104, R106). -/
def execWrCh15OffL (dLo : Byte) (s : State) : Host.Outcome State Fault Refusal := edgeFrame 15 .offL dLo s

/-- WR.CH15.OFF_H (30_encoding.md R104, R106). -/
def execWrCh15OffH (dHi : BitVec 4) (s : State) : Host.Outcome State Fault Refusal := edgeFrame 15 .offH (offHighByte dHi) s

end Sys2Proof.Machine
end

