-- ==== Sys2Proof/Machine/Dispatch.lean ====
section
/-! DEFINITION. The dispatch of the instructions to their meanings, in the order of
spec/opcode_table.json. -/
namespace Sys2Proof.Machine

def exec (i : Instr) (s : State) : Host.Outcome State Fault Refusal :=
  match i with
  | .swrst => Sys2Proof.Machine.execSwrst s
  | .wrPrescale prescale => Sys2Proof.Machine.execWrPrescale prescale s
  | .wrMode1Wake => Sys2Proof.Machine.execWrMode1Wake s
  | .wrMode1Run => Sys2Proof.Machine.execWrMode1Run s
  | .wrMode2 => Sys2Proof.Machine.execWrMode2 s
  | .wrCh0OnL => Sys2Proof.Machine.execWrCh0OnL s
  | .wrCh0OnH => Sys2Proof.Machine.execWrCh0OnH s
  | .wrCh0OffL dLo => Sys2Proof.Machine.execWrCh0OffL dLo s
  | .wrCh0OffH dHi => Sys2Proof.Machine.execWrCh0OffH dHi s
  | .wrCh1OnL => Sys2Proof.Machine.execWrCh1OnL s
  | .wrCh1OnH => Sys2Proof.Machine.execWrCh1OnH s
  | .wrCh1OffL dLo => Sys2Proof.Machine.execWrCh1OffL dLo s
  | .wrCh1OffH dHi => Sys2Proof.Machine.execWrCh1OffH dHi s
  | .wrCh2OnL => Sys2Proof.Machine.execWrCh2OnL s
  | .wrCh2OnH => Sys2Proof.Machine.execWrCh2OnH s
  | .wrCh2OffL dLo => Sys2Proof.Machine.execWrCh2OffL dLo s
  | .wrCh2OffH dHi => Sys2Proof.Machine.execWrCh2OffH dHi s
  | .wrCh3OnL => Sys2Proof.Machine.execWrCh3OnL s
  | .wrCh3OnH => Sys2Proof.Machine.execWrCh3OnH s
  | .wrCh3OffL dLo => Sys2Proof.Machine.execWrCh3OffL dLo s
  | .wrCh3OffH dHi => Sys2Proof.Machine.execWrCh3OffH dHi s
  | .wrCh4OnL => Sys2Proof.Machine.execWrCh4OnL s
  | .wrCh4OnH => Sys2Proof.Machine.execWrCh4OnH s
  | .wrCh4OffL dLo => Sys2Proof.Machine.execWrCh4OffL dLo s
  | .wrCh4OffH dHi => Sys2Proof.Machine.execWrCh4OffH dHi s
  | .wrCh5OnL => Sys2Proof.Machine.execWrCh5OnL s
  | .wrCh5OnH => Sys2Proof.Machine.execWrCh5OnH s
  | .wrCh5OffL dLo => Sys2Proof.Machine.execWrCh5OffL dLo s
  | .wrCh5OffH dHi => Sys2Proof.Machine.execWrCh5OffH dHi s
  | .wrCh6OnL => Sys2Proof.Machine.execWrCh6OnL s
  | .wrCh6OnH => Sys2Proof.Machine.execWrCh6OnH s
  | .wrCh6OffL dLo => Sys2Proof.Machine.execWrCh6OffL dLo s
  | .wrCh6OffH dHi => Sys2Proof.Machine.execWrCh6OffH dHi s
  | .wrCh7OnL => Sys2Proof.Machine.execWrCh7OnL s
  | .wrCh7OnH => Sys2Proof.Machine.execWrCh7OnH s
  | .wrCh7OffL dLo => Sys2Proof.Machine.execWrCh7OffL dLo s
  | .wrCh7OffH dHi => Sys2Proof.Machine.execWrCh7OffH dHi s
  | .wrCh8OnL => Sys2Proof.Machine.execWrCh8OnL s
  | .wrCh8OnH => Sys2Proof.Machine.execWrCh8OnH s
  | .wrCh8OffL dLo => Sys2Proof.Machine.execWrCh8OffL dLo s
  | .wrCh8OffH dHi => Sys2Proof.Machine.execWrCh8OffH dHi s
  | .wrCh9OnL => Sys2Proof.Machine.execWrCh9OnL s
  | .wrCh9OnH => Sys2Proof.Machine.execWrCh9OnH s
  | .wrCh9OffL dLo => Sys2Proof.Machine.execWrCh9OffL dLo s
  | .wrCh9OffH dHi => Sys2Proof.Machine.execWrCh9OffH dHi s
  | .wrCh10OnL => Sys2Proof.Machine.execWrCh10OnL s
  | .wrCh10OnH => Sys2Proof.Machine.execWrCh10OnH s
  | .wrCh10OffL dLo => Sys2Proof.Machine.execWrCh10OffL dLo s
  | .wrCh10OffH dHi => Sys2Proof.Machine.execWrCh10OffH dHi s
  | .wrCh11OnL => Sys2Proof.Machine.execWrCh11OnL s
  | .wrCh11OnH => Sys2Proof.Machine.execWrCh11OnH s
  | .wrCh11OffL dLo => Sys2Proof.Machine.execWrCh11OffL dLo s
  | .wrCh11OffH dHi => Sys2Proof.Machine.execWrCh11OffH dHi s
  | .wrCh12OnL => Sys2Proof.Machine.execWrCh12OnL s
  | .wrCh12OnH => Sys2Proof.Machine.execWrCh12OnH s
  | .wrCh12OffL dLo => Sys2Proof.Machine.execWrCh12OffL dLo s
  | .wrCh12OffH dHi => Sys2Proof.Machine.execWrCh12OffH dHi s
  | .wrCh13OnL => Sys2Proof.Machine.execWrCh13OnL s
  | .wrCh13OnH => Sys2Proof.Machine.execWrCh13OnH s
  | .wrCh13OffL dLo => Sys2Proof.Machine.execWrCh13OffL dLo s
  | .wrCh13OffH dHi => Sys2Proof.Machine.execWrCh13OffH dHi s
  | .wrCh14OnL => Sys2Proof.Machine.execWrCh14OnL s
  | .wrCh14OnH => Sys2Proof.Machine.execWrCh14OnH s
  | .wrCh14OffL dLo => Sys2Proof.Machine.execWrCh14OffL dLo s
  | .wrCh14OffH dHi => Sys2Proof.Machine.execWrCh14OffH dHi s
  | .wrCh15OnL => Sys2Proof.Machine.execWrCh15OnL s
  | .wrCh15OnH => Sys2Proof.Machine.execWrCh15OnH s
  | .wrCh15OffL dLo => Sys2Proof.Machine.execWrCh15OffL dLo s
  | .wrCh15OffH dHi => Sys2Proof.Machine.execWrCh15OffH dHi s
  | .rdMode1 => Sys2Proof.Machine.execRdMode1 s
  | .rdMode2 => Sys2Proof.Machine.execRdMode2 s
  | .rdPrescale => Sys2Proof.Machine.execRdPrescale s
  | .rdCh0OnL => Sys2Proof.Machine.execRdCh0OnL s
  | .rdCh0OnH => Sys2Proof.Machine.execRdCh0OnH s
  | .rdCh0OffL => Sys2Proof.Machine.execRdCh0OffL s
  | .rdCh0OffH => Sys2Proof.Machine.execRdCh0OffH s
  | .rdCh1OnL => Sys2Proof.Machine.execRdCh1OnL s
  | .rdCh1OnH => Sys2Proof.Machine.execRdCh1OnH s
  | .rdCh1OffL => Sys2Proof.Machine.execRdCh1OffL s
  | .rdCh1OffH => Sys2Proof.Machine.execRdCh1OffH s
  | .rdCh2OnL => Sys2Proof.Machine.execRdCh2OnL s
  | .rdCh2OnH => Sys2Proof.Machine.execRdCh2OnH s
  | .rdCh2OffL => Sys2Proof.Machine.execRdCh2OffL s
  | .rdCh2OffH => Sys2Proof.Machine.execRdCh2OffH s
  | .rdCh3OnL => Sys2Proof.Machine.execRdCh3OnL s
  | .rdCh3OnH => Sys2Proof.Machine.execRdCh3OnH s
  | .rdCh3OffL => Sys2Proof.Machine.execRdCh3OffL s
  | .rdCh3OffH => Sys2Proof.Machine.execRdCh3OffH s
  | .rdCh4OnL => Sys2Proof.Machine.execRdCh4OnL s
  | .rdCh4OnH => Sys2Proof.Machine.execRdCh4OnH s
  | .rdCh4OffL => Sys2Proof.Machine.execRdCh4OffL s
  | .rdCh4OffH => Sys2Proof.Machine.execRdCh4OffH s
  | .rdCh5OnL => Sys2Proof.Machine.execRdCh5OnL s
  | .rdCh5OnH => Sys2Proof.Machine.execRdCh5OnH s
  | .rdCh5OffL => Sys2Proof.Machine.execRdCh5OffL s
  | .rdCh5OffH => Sys2Proof.Machine.execRdCh5OffH s
  | .rdCh6OnL => Sys2Proof.Machine.execRdCh6OnL s
  | .rdCh6OnH => Sys2Proof.Machine.execRdCh6OnH s
  | .rdCh6OffL => Sys2Proof.Machine.execRdCh6OffL s
  | .rdCh6OffH => Sys2Proof.Machine.execRdCh6OffH s
  | .rdCh7OnL => Sys2Proof.Machine.execRdCh7OnL s
  | .rdCh7OnH => Sys2Proof.Machine.execRdCh7OnH s
  | .rdCh7OffL => Sys2Proof.Machine.execRdCh7OffL s
  | .rdCh7OffH => Sys2Proof.Machine.execRdCh7OffH s
  | .rdCh8OnL => Sys2Proof.Machine.execRdCh8OnL s
  | .rdCh8OnH => Sys2Proof.Machine.execRdCh8OnH s
  | .rdCh8OffL => Sys2Proof.Machine.execRdCh8OffL s
  | .rdCh8OffH => Sys2Proof.Machine.execRdCh8OffH s
  | .rdCh9OnL => Sys2Proof.Machine.execRdCh9OnL s
  | .rdCh9OnH => Sys2Proof.Machine.execRdCh9OnH s
  | .rdCh9OffL => Sys2Proof.Machine.execRdCh9OffL s
  | .rdCh9OffH => Sys2Proof.Machine.execRdCh9OffH s
  | .rdCh10OnL => Sys2Proof.Machine.execRdCh10OnL s
  | .rdCh10OnH => Sys2Proof.Machine.execRdCh10OnH s
  | .rdCh10OffL => Sys2Proof.Machine.execRdCh10OffL s
  | .rdCh10OffH => Sys2Proof.Machine.execRdCh10OffH s
  | .rdCh11OnL => Sys2Proof.Machine.execRdCh11OnL s
  | .rdCh11OnH => Sys2Proof.Machine.execRdCh11OnH s
  | .rdCh11OffL => Sys2Proof.Machine.execRdCh11OffL s
  | .rdCh11OffH => Sys2Proof.Machine.execRdCh11OffH s
  | .rdCh12OnL => Sys2Proof.Machine.execRdCh12OnL s
  | .rdCh12OnH => Sys2Proof.Machine.execRdCh12OnH s
  | .rdCh12OffL => Sys2Proof.Machine.execRdCh12OffL s
  | .rdCh12OffH => Sys2Proof.Machine.execRdCh12OffH s
  | .rdCh13OnL => Sys2Proof.Machine.execRdCh13OnL s
  | .rdCh13OnH => Sys2Proof.Machine.execRdCh13OnH s
  | .rdCh13OffL => Sys2Proof.Machine.execRdCh13OffL s
  | .rdCh13OffH => Sys2Proof.Machine.execRdCh13OffH s
  | .rdCh14OnL => Sys2Proof.Machine.execRdCh14OnL s
  | .rdCh14OnH => Sys2Proof.Machine.execRdCh14OnH s
  | .rdCh14OffL => Sys2Proof.Machine.execRdCh14OffL s
  | .rdCh14OffH => Sys2Proof.Machine.execRdCh14OffH s
  | .rdCh15OnL => Sys2Proof.Machine.execRdCh15OnL s
  | .rdCh15OnH => Sys2Proof.Machine.execRdCh15OnH s
  | .rdCh15OffL => Sys2Proof.Machine.execRdCh15OffL s
  | .rdCh15OffH => Sys2Proof.Machine.execRdCh15OffH s
  | .opOpen => Sys2Proof.Machine.execOpen s
  | .opReset => Sys2Proof.Machine.execReset s
  | .opWrch => Sys2Proof.Machine.execWrch s
  | .opRdall => Sys2Proof.Machine.execRdall s
  | .opPresc => Sys2Proof.Machine.execPresc s
  | .opMap => Sys2Proof.Machine.execMap s
  | .opCal => Sys2Proof.Machine.execCal s
  | .opTick => Sys2Proof.Machine.execTick s
  | .opRun => Sys2Proof.Machine.execRun s
  | .opShutdown => Sys2Proof.Machine.execShutdown s

end Sys2Proof.Machine
end

