-- ==== Sys2Proof/Machine/Port.lean ====
section
/-! DEFINITION. The port: taking the next input, what of it is accepted in which phase, and the block
reset (10_state.md R21, 30_encoding.md R109, 60_exceptions.md R284, 70_reset_and_hazards.md R310). -/
namespace Sys2Proof.Machine

/-- The input of a step that nothing reaches. -/
def Input.quiet : Input := ⟨false, .idle⟩

/-- The host's action at this step. -/
def nextAction (s : State) : PortAction := (s.inbox.headD Input.quiet).action

/-- The state with this step's input taken: the signal latched in TERM (60_exceptions.md R282, log 12). -/
def takeInput (s : State) : State :=
  latchTerm (s.inbox.headD Input.quiet).term { s with inbox := s.inbox.tail }

/-- The block reset (70_reset_and_hazards.md R310, R311): the block's state at its reset values under the
configuration loaded, no interface touched (log 23). -/
def blockReset (s : State) : State := State.resetWith s.cfg s.chip s.env s.inbox

/-- What a step is to do. -/
inductive Turn where
  /-- The step ends in this state. -/
  | settle (s : State)
  /-- An instruction is to be run. -/
  | run (i : Instr) (s : State)
  /-- RUN is in progress: one iteration of its loop. -/
  | tick (s : State)
  | fault (f : Fault)
  | refuse (r : Refusal)

/-- Whether a result register has been written (10_state.md R21, log 4). -/
def resultWritten (r : ResultReg) (s : State) : Bool :=
  match r with
  | .duty => s.resDutyWritten
  | .presc => s.resPrescWritten
  | .snap => s.resSnapWritten

/-- A byte written to CMD stands in CMD (10_state.md R21); a frame request has no register. -/
def noteCommand (w : PortWord) (s : State) : State :=
  match w with
  | .cmd code => { s with cmd := code }
  | .frame _ _ => s

/-- The issue of a word: its instruction is run, a reserved command sets ERR only (30_encoding.md R112), a
transfer that is no frame is refused (log 21). -/
def issueWord (w : PortWord) (s : State) : Turn :=
  match decode s.cfg w with
  | .ok i => .run i (noteCommand w s)
  | .error .reservedCommand => .settle (setErr .outOfRange (infoWord 0xFF 0xFF) (noteCommand w s))
  | .error _ => .refuse .notAFrame

/-- Whether the phase is Halted (43_control_loop.md R245). -/
def isHalted (s : State) : Bool :=
  match s.seq.phase with
  | .halted _ => true
  | .idle => false
  | .init => false
  | .calibrating => false
  | .running => false
  | .shuttingDown => false

/-- Whether the command port accepts an operation: not while RUN is in progress (60_exceptions.md R284)
and not in Halted (43_control_loop.md R245). -/
def portAccepts (s : State) : Bool := !s.runActive && !isHalted s

/-- A host read of a result register: answered once its operation has succeeded, before that the fault the
spec asks for, "a model faults a read of one before that" (10_state.md R21, 70_reset_and_hazards.md R311,
93_implementation_defined.md U11; log 4). -/
def readResult (r : ResultReg) (s : State) : Turn :=
  if resultWritten r s then .settle s else .fault (.resultNotWritten r)

/-- A host action the port accepts (10_state.md R21). -/
def acceptAction (a : PortAction) (s : State) : Turn :=
  match a with
  | .idle => .settle s
  | .writeArgCh v => .settle { s with argCh := v }
  | .writeArgDuty v => .settle { s with argDuty := v }
  | .writeArgFrac v => .settle { s with argFrac := v }
  | .writeArgFreq v => .settle { s with argFreq := v }
  | .writeArgMode v => .settle { s with argMode := v }
  | .issue w => issueWord w s
  | .readResult r => readResult r s
  | .blockReset => .settle (blockReset s)

/-- What a step does with the host's action, by phase (60_exceptions.md R284, log 22): a block reset
always; a tick while RUN is in progress; nothing in Halted but the read of a result register. -/
def arbitrate (a : PortAction) (s : State) : Turn :=
  match a with
  | .blockReset => .settle (blockReset s)
  | _ =>
    if s.runActive then .tick s
    else if isHalted s then
      match a with
      | .readResult r => readResult r s
      | _ => .settle s
    else acceptAction a s

/-- The state in which an input stands first and the port accepts it: what a program's loading into
`inbox` takes (log 29). -/
def placeWord (w : PortWord) (s : State) : State :=
  { s with
    inbox := ⟨false, .issue w⟩ :: s.inbox
    runActive := false
    seq := { s.seq with phase := if isHalted s then .idle else s.seq.phase } }

end Sys2Proof.Machine
end

