-- ==== Sys2Proof/Machine/Step.lean ====
section
/-! DEFINITION. One step of the machine: one input is taken, and the block does what its phase lets it do
with it (60_exceptions.md R284; log 12, log 13). -/
namespace Sys2Proof.Machine

/-- One step. An ill-formed CFG is refused, not run (00_scope.md R9, log 20). -/
def step (s : State) : Host.Outcome State Fault Refusal :=
  if s.cfg.wf then
    match arbitrate (nextAction s) (takeInput s) with
    | .settle t => .next t
    | .run i t => exec i t
    | .tick t => loopTick t
    | .fault f => .fault f
    | .refuse r => .refused r
  else .refused .illFormedConfig

/-- The state in which a word of spec/opcode_table.json stands where the next step takes its instruction:
at the head of the port's inputs, with the port accepting (log 16, log 29). -/
def State.withFetchWord (s : State) (nbits w : Nat) : State :=
  placeWord (tablePortWord s.cfg nbits w) s

end Sys2Proof.Machine
end

