-- ==== Sys2Proof/Safety.lean ====
section
/-! DEFINITION. What claims about the block are stated with: the environments that answer, the trace's
lock discipline, the invariant of the states between two steps, and the rows of the opcode table grouped
by shape. -/
namespace Sys2Proof.Machine

/-- Every answer of an agent, queued or later, is as `p` asks. -/
def Draws.all {α : Type} (p : α → Bool) (d : Draws α) : Bool := d.queue.all p && p d.rest

/-- The answers after the next `n`. -/
def Draws.drop {α : Type} (n : Nat) (d : Draws α) : Draws α := { d with queue := d.queue.drop n }

/-- An answer that comes. -/
def Reply.comes {α : Type} : Reply α → Bool
  | .got _ => true
  | .hang => false

/-- The three progress assumptions of 70_reset_and_hazards.md R333: every transfer and GPIO action
answers, GetDistance returns, the semaphore is freed. -/
def Env.responsive (e : Env) : Bool :=
  e.bus.all Reply.comes && e.gpio.all Reply.comes && e.release.all Reply.comes &&
    e.sensor.all Reply.comes && e.shm.all Reply.comes

/-- The environment after the next `n` bus transfers. -/
def Env.dropBus (n : Nat) (e : Env) : Env := { e with bus := e.bus.drop n }

/-- The environment after the next `n` GPIO actions. -/
def Env.dropGpio (n : Nat) (e : Env) : Env := { e with gpio := e.gpio.drop n }

/-- The environment after the next `n` GPIO releases. -/
def Env.dropRelease (n : Nat) (e : Env) : Env := { e with release := e.release.drop n }

/-- The next `n` bus transfers answer `ok`. -/
def Env.busOkFor : Nat → Env → Bool
  | 0, _ => true
  | n + 1, e => (e.bus.head == .got .ok) && Env.busOkFor n (e.dropBus 1)

/-- The next `n` GPIO actions answer `ok`. -/
def Env.gpioOkFor : Nat → Env → Bool
  | 0, _ => true
  | n + 1, e => (e.gpio.head == .got true) && Env.gpioOkFor n (e.dropGpio 1)

/-- The next `n` GPIO releases return. -/
def Env.releasesFor : Nat → Env → Bool
  | 0, _ => true
  | n + 1, e => (e.release.head == .got ()) && Env.releasesFor n (e.dropRelease 1)

/-- The GPIO release after the next `n` never returns. -/
def Env.releaseHangsAt (n : Nat) (e : Env) : Bool :=
  e.releasesFor n && ((e.release.drop n).head == .hang)

/-- The bus transfer after the next `n` answers `fail`, `delivered` of its bytes having reached the chip. -/
def Env.busFailsAt (n delivered : Nat) (e : Env) : Bool :=
  e.busOkFor n && ((e.bus.drop n).head == .got (.fail delivered))

/-- What one event does to the lock: free, taken, or the discipline broken (20_memory.md R75: between
SemAcquire and SemRelease the block does nothing else). -/
inductive LockState where
  | free
  | taken
  | broken
deriving DecidableEq, Repr

/-- The lock after one more event. -/
def lockAfter : LockState → Event → LockState
  | .free, .semAcq => .taken
  | .free, .semRel => .broken
  | .free, _ => .free
  | .taken, .semRel => .free
  | .taken, _ => .broken
  | .broken, _ => .broken

/-- "the lock is free during every bus transfer" (43_control_loop.md R242(c)), and during every other
action: each SEM_ACQ of the trace is followed at once by its SEM_REL. -/
def lockDiscipline (tr : List Event) : Prop := tr.foldl lockAfter .free = .free

/-- The chip's registers are in canonical form, and MODE1 is not both written and as SWRST left it. -/
def Chip.wf (chip : Chip) : Bool :=
  chip.regs.wf && (!chip.resetMode1 || (chip.regs.read 0).isNone)

/-- A line that is not held has an unknown level (10_state.md R30). -/
def GpioLine.wf (g : GpioLine) : Bool := g.held || decide (g.level = .unknown)

/-- The invariant of the states between two steps. -/
structure Inv (s : State) : Prop where
  /-- The chip's register memory is in canonical form. -/
  chipCanonical : s.chip.wf = true
  /-- 10_state.md R30: a line not held has an unknown level. -/
  settingLine : s.gpioSetting.wf = true
  powerLine : s.gpioPower.wf = true
  /-- 10_state.md R30: "POWER exists only when POWER_LINE_PRESENT". -/
  powerAbsent : s.cfg.powerLinePresent = false → s.gpioPower.held = false
  /-- 42_motor_calibration.md R200: "CAL leaves MCS at Done or at NotStarted". -/
  mcsSettled : s.mcs = .done ∨ s.mcs = .notStarted
  /-- Before the handshake is done no line stays held (42_motor_calibration.md R208). -/
  noLineBeforeDone : s.mcs = .notStarted → s.gpioSetting.held = false ∧ s.gpioPower.held = false
  /-- 10_state.md R28: Done is reached only through an attempt. -/
  doneAttempted : s.mcs = .done → s.calAttempted = true
  /-- 60_exceptions.md R284: between two steps the phase is Idle, Running, Halted(0) or Halted(1). -/
  phaseSettled : s.seq.phase = .idle ∨ s.seq.phase = .running ∨ s.seq.phase = .halted 0 ∨
    s.seq.phase = .halted 1
  /-- The loop runs exactly while RUN is in progress (60_exceptions.md R284, log 14). -/
  runningIsRun : s.runActive = true ↔ s.seq.phase = .running
  /-- 43_control_loop.md R231: no tick without a device opened. -/
  runningOpen : s.seq.phase = .running → s.handle.isSome = true
  /-- 40_register_protocol.md R150: the handle is gone at every exit. -/
  haltedClosed : isHalted s = true → s.handle = none
  /-- 43_control_loop.md R240: SHUTDOWN leaves no line held. -/
  shutdownReleased : s.seq.phase = .halted 0 →
    s.gpioSetting.held = false ∧ s.gpioPower.held = false
  /-- 10_state.md R24: HANDLE.prescale is the value OPEN wrote. -/
  handlePrescale : ∀ h, s.handle = some h → prescaleOf s.cfg.freqHz = some h.prescale
  /-- 10_state.md R38(a): once OPEN has succeeded, whether the chip is in low-power mode is known. -/
  lowPowerKnown : s.handle.isSome = true → (s.chip.lowPower s.cfg).isSome = true
  /-- 30_encoding.md R108: RES_SNAP is 67 bytes. -/
  snapLength : s.resSnap.length = 67
  /-- 60_exceptions.md R271: codes 1 to 5, and 0 with no info for no error. -/
  errCodes : s.err.code.toNat ≤ 5 ∧ (s.err.code = 0 → s.err.info = 0)
  /-- 20_memory.md R75, 43_control_loop.md R242(c). -/
  lockFree : lockDiscipline s.tr

/-! ### What the operations leave on the bus and in the chip, written out from their rules -/

/-- One register write in TR (00_scope.md R12, 20_memory.md R64). -/
def regwrEvent (cfg : Config) (r v : Byte) (ok : Bool) : Event := .busW cfg.devAddr [r, v] ok

/-- One register read in TR (20_memory.md R65). -/
def regrdEvents (cfg : Config) (r v : Byte) : List Event :=
  [.busW cfg.devAddr [r] true, .busR cfg.devAddr 1 (some [v])]

/-- The SWRST frame in TR (20_memory.md R66). -/
def swrstEvent (cfg : Config) (ok : Bool) : Event := .busW cfg.swrstAddr [cfg.swrstByte] ok

/-- The four frames of a successful WRCH (40_register_protocol.md R149). -/
def wrchEvents (cfg : Config) (c : Channel) (d : Duty) : List Event :=
  edgeOrder.map fun x => regwrEvent cfg (edgeAddr cfg c x) (edgeData d x) true

/-- The chip's registers after a successful WRCH. -/
def wrchRegs (cfg : Config) (c : Channel) (d : Duty) (m : Memory) : Memory :=
  edgeOrder.foldl (fun m x => m.write (edgeAddr cfg c x).toNat (edgeData d x)) m

/-- A register write of a WRCH that answers `fail`: which of the four, and how many of its two bytes had
reached the chip (20_memory.md R62, log 11). -/
structure FailedWrite where
  edge : Edge
  delivered : Nat
deriving DecidableEq, Repr

/-- How many of the four writes of a WRCH come before that of an edge register (40_register_protocol.md
R149). -/
def writesBefore : Edge → Nat
  | .onL => 0
  | .onH => 1
  | .offL => 2
  | .offH => 3

/-- The frames of a WRCH that stops at a failed write (40_register_protocol.md R144). -/
def stoppedEvents (cfg : Config) (c : Channel) (d : Duty) (f : FailedWrite) : List Event :=
  (wrchEvents cfg c d).take (writesBefore f.edge) ++
    [regwrEvent cfg (edgeAddr cfg c f.edge) (edgeData d f.edge) false]

/-- The chip's registers after such a WRCH, the mixture of 70_reset_and_hazards.md R320: the writes before
the failed one stand, the failed one only if both its bytes had arrived. -/
def stoppedRegs (cfg : Config) (c : Channel) (d : Duty) (f : FailedWrite) (m : Memory) : Memory :=
  (edgeOrder.take (if 2 ≤ f.delivered then writesBefore f.edge + 1 else writesBefore f.edge)).foldl
    (fun m x => m.write (edgeAddr cfg c x).toNat (edgeData d x)) m

/-- The four register writes of OPEN, in order (40_register_protocol.md R142, steps 6, 7, 9, 10). -/
def openWrites (cfg : Config) (p : Byte) : List (Byte × Byte) :=
  [(regPrescale, p), (regMode1, cfg.m1Wake), (regMode1, cfg.m1Run), (regMode2, cfg.m2Init)]

/-- The trace of OPEN from its BusOpen on, when every step succeeds (40_register_protocol.md R142). -/
def openEvents (cfg : Config) (p : Byte) : List Event :=
  [.busOpen true, swrstEvent cfg true, .delay .settle, regwrEvent cfg regPrescale p true,
    regwrEvent cfg regMode1 cfg.m1Wake true, .delay .wake, regwrEvent cfg regMode1 cfg.m1Run true,
    regwrEvent cfg regMode2 cfg.m2Init true]

/-- The chip OPEN leaves: MODE1, MODE2 and PRESCALE written, every other register unwritten. -/
def openedChip (cfg : Config) (p : Byte) (resets : Nat) : Chip where
  regs := [(0, cfg.m1Run), (1, cfg.m2Init), (254, p)]
  resetMode1 := false
  resets := resets

/-- What a GPIO line is after its release, or as it was where it is not held (10_state.md R30). -/
def releasedLine (g : GpioLine) : GpioLine := if g.held then ⟨false, .unknown⟩ else g

/-- The release events of the lines held (42_motor_calibration.md R208, 43_control_loop.md R240). -/
def releaseEvents (s : State) : List Event :=
  (if s.gpioSetting.held then [.gpioRel .setting] else []) ++
    (if s.gpioPower.held then [.gpioRel .power] else [])

/-- How many lines are held. -/
def heldLines (s : State) : Nat := s.gpioSetting.held.toNat + s.gpioPower.held.toNat

/-- MAP of 0.5: the middle of the entry's range (41_duty_mapper.md R185(c)). -/
def neutralDuty (e : CalEntry) : Duty :=
  BitVec.ofNat 12 (e.minCount.toNat + (e.maxCount.toNat - e.minCount.toNat + 1) / 2)

/-- MAP of 1.0 (41_duty_mapper.md R185(a)). -/
def fullDuty (e : CalEntry) : Duty := if e.invert then e.minCount else e.maxCount

/-- MAP of 0.0 (41_duty_mapper.md R185(a)). -/
def zeroDuty (e : CalEntry) : Duty := if e.invert then e.maxCount else e.minCount

/-- A pulse of the setting line in TR (42_motor_calibration.md R201). -/
def pulseEvents : List Event :=
  [.gpioSet .setting true true, .delay .pulse, .gpioSet .setting false true, .delay .learn]

/-- The trace of a CAL in which every action succeeds (42_motor_calibration.md R203 to R207). -/
def calEvents (cfg : Config) : List Event :=
  let c := cfg.motorCh
  let e := cfg.cal.get c
  (if cfg.powerLinePresent then [.gpioReq .power true, .gpioSet .power true true] else []) ++
    [.gpioReq .setting true, .gpioSet .setting true true, .delay .hold, .gpioSet .setting false true] ++
    wrchEvents cfg c (neutralDuty e) ++ pulseEvents ++
    wrchEvents cfg c (fullDuty e) ++ pulseEvents ++
    wrchEvents cfg c (zeroDuty e) ++ pulseEvents ++
    (if cfg.gpioTransient then
      .gpioRel .setting :: (if cfg.powerLinePresent then [.gpioRel .power] else [])
    else [])

/-- How many GPIO requests and writes such a CAL makes. -/
def calGpioActions (cfg : Config) : Nat := if cfg.powerLinePresent then 11 else 9

/-- How many GPIO releases such a CAL makes (42_motor_calibration.md R207). -/
def calReleases (cfg : Config) : Nat :=
  if cfg.gpioTransient then (if cfg.powerLinePresent then 2 else 1) else 0

/-- The chip's registers after such a CAL: the motor channel at its zero-throttle duty. -/
def calRegs (cfg : Config) (m : Memory) : Memory :=
  let c := cfg.motorCh
  let e := cfg.cal.get c
  wrchRegs cfg c (zeroDuty e) (wrchRegs cfg c (fullDuty e) (wrchRegs cfg c (neutralDuty e) m))

/-- One action of the handshake up to the end of T4, with the transition it belongs to where it is a GPIO
action (42_motor_calibration.md R203 to R206). -/
inductive CalAction where
  | request (transition : Byte) (l : Line)
  | drive (transition : Byte) (l : Line) (high : Bool)
  | write (r v : Byte)
  | wait (w : Wait)
deriving DecidableEq, Repr

/-- The event an action leaves in TR (00_scope.md R12). -/
def CalAction.event (cfg : Config) (ok : Bool) : CalAction → Event
  | .request _ l => .gpioReq l ok
  | .drive _ l high => .gpioSet l high ok
  | .write r v => regwrEvent cfg r v ok
  | .wait w => .delay w

/-- The action is a GPIO action. -/
def CalAction.isGpio : CalAction → Bool
  | .request _ _ => true
  | .drive _ _ _ => true
  | .write _ _ => false
  | .wait _ => false

/-- The action is a register write. -/
def CalAction.isWrite : CalAction → Bool
  | .request _ _ => false
  | .drive _ _ _ => false
  | .write _ _ => true
  | .wait _ => false

/-- The action is the request of a line. -/
def CalAction.isRequest : CalAction → Bool
  | .request _ _ => true
  | .drive _ _ _ => false
  | .write _ _ => false
  | .wait _ => false

/-- ERR after the action failed: CalibrationAbortedError with the transition and the line
(42_motor_calibration.md R208), BusTransferError of the write (R209); a wait cannot fail. -/
def CalAction.err : CalAction → ErrReg
  | .request t l => ⟨5, t ++ lineCode l⟩
  | .drive t l _ => ⟨5, t ++ lineCode l⟩
  | .write r _ => ⟨1, 0x00#8 ++ r⟩
  | .wait _ => ⟨0, 0⟩

/-- What an action does to the chip's registers. -/
def CalAction.regs (m : Memory) : CalAction → Memory
  | .request _ _ => m
  | .drive _ _ _ => m
  | .write r v => m.write r.toNat v
  | .wait _ => m

/-- The four writes of the motor channel (42_motor_calibration.md R201). -/
def motorActions (cfg : Config) (d : Duty) : List CalAction :=
  edgeOrder.map fun x => .write (edgeAddr cfg cfg.motorCh x) (edgeData d x)

/-- A pulse of the setting line (42_motor_calibration.md R201). -/
def pulseActions (transition : Byte) : List CalAction :=
  [.drive transition .setting true, .wait .pulse, .drive transition .setting false, .wait .learn]

/-- The actions of T1 to T4 in order (42_motor_calibration.md R203 to R206); T5 has none that can fail. -/
def calActions (cfg : Config) : List CalAction :=
  let e := cfg.cal.get cfg.motorCh
  (if cfg.powerLinePresent then [.request 1 .power, .drive 1 .power true] else []) ++
    [.request 1 .setting, .drive 1 .setting true, .wait .hold, .drive 2 .setting false] ++
    motorActions cfg (neutralDuty e) ++ pulseActions 2 ++
    motorActions cfg (fullDuty e) ++ pulseActions 3 ++
    motorActions cfg (zeroDuty e) ++ pulseActions 4

/-- The `k`-th action of the handshake, `a`, answers `fail` after those before it answered `ok`; of a failed
register write `delivered` bytes had reached the chip. -/
def calFailsAt (cfg : Config) (k delivered : Nat) (a : CalAction) (e : Env) : Bool :=
  let done := (calActions cfg).take k
  ((calActions cfg)[k]? == some a) && e.gpioOkFor (done.countP CalAction.isGpio) &&
    e.busOkFor (done.countP CalAction.isWrite) &&
    ((a.isGpio && ((e.gpio.drop (done.countP CalAction.isGpio)).head == .got false)) ||
      (a.isWrite && ((e.bus.drop (done.countP CalAction.isWrite)).head == .got (.fail delivered))))

/-- The setting line after a CAL in which every action succeeds (42_motor_calibration.md R207). -/
def settingAfterCal (cfg : Config) : GpioLine :=
  if cfg.gpioTransient then ⟨false, .unknown⟩ else ⟨true, .low⟩

/-- The power line after such a CAL, for the line before it (42_motor_calibration.md R207). -/
def powerAfterCal (cfg : Config) (g : GpioLine) : GpioLine :=
  if cfg.powerLinePresent then
    (if cfg.gpioTransient then ⟨false, .unknown⟩ else ⟨true, .high⟩)
  else g

/-- The duty a valid tick gives channel `c`, if its fraction is in range (43_control_loop.md R237). -/
def tickDuty (cfg : Config) (snap : Snapshot) (c : Channel) : Option Duty :=
  mapDuty (cfg.cal.get c) (commandedFraction snap c)

/-- In which channels of a tick a write fails, and which. -/
abbrev TickFailures := Channel → Option FailedWrite

/-- No write of the tick fails. -/
def noFailures : TickFailures := fun _ => none

/-- What a valid tick without a calibration leaves in TR for channel `c` (43_control_loop.md R238): a failed
write is logged (60_exceptions.md R278). -/
def tickChannelEvents (cfg : Config) (mcs : Mcs) (snap : Snapshot) (fails : TickFailures) (c : Channel) :
    List Event :=
  match tickDuty cfg snap c with
  | none => [.log .range (channelInfo c)]
  | some d =>
    (if c = cfg.motorCh ∧ mcs ≠ .done then [.log .uncal (channelInfo c)] else []) ++
      match fails c with
      | none => wrchEvents cfg c d
      | some f => stoppedEvents cfg c d f ++ [.log .actFail (channelInfo c)]

/-- What such a tick does to the chip's registers for channel `c`. -/
def tickChannelRegs (cfg : Config) (snap : Snapshot) (fails : TickFailures) (m : Memory) (c : Channel) :
    Memory :=
  match tickDuty cfg snap c with
  | none => m
  | some d =>
    match fails c with
    | none => wrchRegs cfg c d m
    | some f => stoppedRegs cfg c d f m

/-- What such a tick does to ERR for channel `c`: a rejected fraction and a failed write show, a good one
leaves ERR as it was (10_state.md R29, 60_exceptions.md R278). -/
def tickChannelErr (cfg : Config) (snap : Snapshot) (fails : TickFailures) (e : ErrReg) (c : Channel) :
    ErrReg :=
  match tickDuty cfg snap c with
  | none => ⟨4, infoWord 0x01 (BitVec.ofNat 8 c.val)⟩
  | some _ =>
    match fails c with
    | none => e
    | some f => ⟨1, infoWord 0x00 (edgeAddr cfg c f.edge)⟩

/-- How many bus transfers such a tick makes for channel `c`. -/
def tickChannelTransfers (cfg : Config) (snap : Snapshot) (fails : TickFailures) (c : Channel) : Nat :=
  match tickDuty cfg snap c with
  | none => 0
  | some _ =>
    match fails c with
    | none => 4
    | some f => writesBefore f.edge + 1

/-- How many bus transfers such a tick makes for these channels. -/
def tickTransfersOf (cfg : Config) (snap : Snapshot) (fails : TickFailures) (cs : List Channel) : Nat :=
  (cs.map (tickChannelTransfers cfg snap fails)).sum

/-- How many bus transfers such a tick makes. -/
def tickTransfers (cfg : Config) (snap : Snapshot) (fails : TickFailures) : Nat :=
  tickTransfersOf cfg snap fails channels

/-- The bus answers the writes of these channels, one channel after another, as `fails` says. -/
def tickAnswers (cfg : Config) (snap : Snapshot) (fails : TickFailures) : List Channel → Env → Bool
  | [], _ => true
  | c :: rest, e =>
    (match tickDuty cfg snap c with
      | none => true
      | some _ =>
        match fails c with
        | none => e.busOkFor 4
        | some f => e.busFailsAt (writesBefore f.edge) f.delivered) &&
      tickAnswers cfg snap fails rest (e.dropBus (tickChannelTransfers cfg snap fails c))

/-- What a tick whose motor channel starts the calibration leaves in TR for channel `c`, when every action
succeeds: the handshake, where one is required, stands before the motor channel's own frames
(43_control_loop.md R238, 42_motor_calibration.md R212). -/
def lazyTickEvents (cfg : Config) (snap : Snapshot) (c : Channel) : List Event :=
  (if c = cfg.motorCh ∧ cfg.requiresHandshake = true then calEvents cfg else []) ++
    tickChannelEvents cfg .done snap noFailures c

/-- What such a tick does to the chip's registers for channel `c`. -/
def lazyTickRegs (cfg : Config) (snap : Snapshot) (m : Memory) (c : Channel) : Memory :=
  tickChannelRegs cfg snap noFailures
    (if c = cfg.motorCh ∧ cfg.requiresHandshake = true then calRegs cfg m else m) c

/-- How many bus transfers such a tick makes. -/
def lazyTickTransfers (cfg : Config) (snap : Snapshot) : Nat :=
  (if cfg.requiresHandshake then 12 else 0) + tickTransfers cfg snap noFailures

/-- How many GPIO requests and writes such a tick makes. -/
def lazyTickGpioActions (cfg : Config) : Nat := if cfg.requiresHandshake then calGpioActions cfg else 0

/-- How many GPIO releases such a tick makes. -/
def lazyTickReleases (cfg : Config) : Nat := if cfg.requiresHandshake then calReleases cfg else 0

/-- A tick of this state that acts on `snap` starts the calibration: the first motor write of the policy
ON_FIRST_MOTOR_WRITE, with a fraction in range (43_control_loop.md R238). -/
def startsCal (s : State) (snap : Snapshot) : Prop :=
  s.mcs ≠ .done ∧ s.cfg.calPolicy = .onFirstMotorWrite ∧ s.calAttempted = false ∧
    (tickDuty s.cfg snap s.cfg.motorCh).isSome = true

/-- The state in which such a tick comes to the calibration: the snapshot taken, the channels before the
motor's actuated, SEQ.idx at the motor's. -/
def atMotorChannel (s : State) (r : F64) (snap : Snapshot) (fails : TickFailures) : State :=
  let earlier := channels.take s.cfg.motorCh.val
  { s with
    err := earlier.foldl (tickChannelErr s.cfg snap fails) ⟨0, 0⟩
    clr := if s.cfg.sensorConfigured then r else s.clr
    snap := snap
    seq := ⟨s.seq.phase, s.cfg.motorCh⟩
    tr := s.tr ++ (if s.cfg.sensorConfigured then [.sense r] else []) ++ [.semAcq, .semRel] ++
      earlier.flatMap (tickChannelEvents s.cfg s.mcs snap fails)
    chip := { s.chip with regs := earlier.foldl (tickChannelRegs s.cfg snap fails) s.chip.regs }
    env := { s.env.dropBus (tickTransfersOf s.cfg snap fails earlier) with
      sensor := if s.cfg.sensorConfigured then s.env.sensor.tail else s.env.sensor
      shm := s.env.shm.tail } }

/-- The WR row of channel `c`'s edge register `x` as WRCH sends it for the duty `d`: all 64 rows
WR.CHc.X, `c` from 0 to 15 (30_encoding.md R104). -/
def edgeWriteInstr (c : Channel) (x : Edge) (d : Duty) : Instr :=
  match x with
  | .onL => wrOnL c
  | .onH => wrOnH c
  | .offL => wrOffL c (d.extractLsb' 0 8)
  | .offH => wrOffH c (d.extractLsb' 8 4)

/-- The RD row of a register the block reads, with the register's address: all 67 RD rows. -/
inductive ReadRow (cfg : Config) : Instr → Byte → Prop where
  | mode1 : ReadRow cfg .rdMode1 regMode1
  | mode2 : ReadRow cfg .rdMode2 regMode2
  | prescale : ReadRow cfg .rdPrescale regPrescale
  | edge (c : Channel) (x : Edge) : ReadRow cfg (rdEdge c x) (edgeAddr cfg c x)

/-- The WR row of a register the block writes, with the register's address and its byte: all 68 WR
rows. -/
inductive WriteRow (cfg : Config) : Instr → Byte → Byte → Prop where
  | prescale (p : Byte) : WriteRow cfg (.wrPrescale p) regPrescale p
  | mode1Wake : WriteRow cfg .wrMode1Wake regMode1 cfg.m1Wake
  | mode1Run : WriteRow cfg .wrMode1Run regMode1 cfg.m1Run
  | mode2 : WriteRow cfg .wrMode2 regMode2 cfg.m2Init
  | edge (c : Channel) (x : Edge) (d : Duty) :
      WriteRow cfg (edgeWriteInstr c x d) (edgeAddr cfg c x) (edgeData d x)

end Sys2Proof.Machine
end

