-- ==== Sys2Proof/Certificates/Slice0/Obligations.lean ====
section
/-! DEFINITION. The statements for the provers, in the order of OBLIGATIONS.json. -/

open Sys2Proof Sys2Proof.Machine

/-! ### Encoding -/

/-- 30_encoding.md R105 to R107, R110: what the encoder writes for a well-formed instruction the decoder
reads back, whatever its operands. -/
def Obligations.DecodeEncodeAgree : Prop :=
  ∀ (cfg : Config) (i : Instr), cfg.wf = true → i.wellFormed cfg = true →
    decode cfg (encode cfg i) = .ok i

/-- 30_encoding.md R104, R106, R107: a word that decodes is, bit for bit, the encoding of what it decodes
to, so no bit of a frame or a command is dropped. -/
def Obligations.DecodedWordIsItsEncoding : Prop :=
  ∀ (cfg : Config) (w : PortWord) (i : Instr), decode cfg w = .ok i → encode cfg i = w

/-- 30_encoding.md R103 to R106, R110: one word of each family, written out, decodes to its row under
`Config.initial` alone. The bus addresses 0x40 and 0x00 and the bytes 0x06, 0xA1 and 0x04 are R8's defaults
from general knowledge (00_scope.md R8; log 2, PRESUMED); that this configuration stands for the loaded one
is log 1 (DESIGN CHOICE), the order of the bits of a word log 17. -/
def Obligations.WrittenOutWordsDecode : Prop :=
  decode Config.initial (.frame 0x00#7 [0x06#8]) = .ok .swrst ∧
  decode Config.initial (.frame 0x40#7 [0xFE#8, 0x79#8]) = .ok (.wrPrescale 0x79#8) ∧
  decode Config.initial (.frame 0x40#7 [0x00#8, 0x00#8]) = .ok .wrMode1Wake ∧
  decode Config.initial (.frame 0x40#7 [0x00#8, 0xA1#8]) = .ok .wrMode1Run ∧
  decode Config.initial (.frame 0x40#7 [0x01#8, 0x04#8]) = .ok .wrMode2 ∧
  decode Config.initial (.frame 0x40#7 [0x08#8, 0x04#8]) = .ok (.wrCh0OffL 0x04#8) ∧
  decode Config.initial (.frame 0x40#7 [0x45#8, 0x0F#8]) = .ok (.wrCh15OffH 0xF#4) ∧
  decode Config.initial (.frame 0x40#7 [0xFE#8]) = .ok .rdPrescale ∧
  decode Config.initial (.frame 0x40#7 [0x23#8]) = .ok .rdCh7OnH ∧
  decode Config.initial (.cmd 0x0A#8) = .ok .opShutdown

/-- 30_encoding.md R104: the data bytes of the four edge registers, and the count they carry. -/
def Obligations.EdgeDataBytesCarryTheCount : Prop :=
  ∀ d : Duty,
    edgeData d .onL = 0x00#8 ∧ edgeData d .onH = 0x00#8 ∧
    edgeData d .offL = d.extractLsb' 0 8 ∧ edgeData d .offH = 0#4 ++ d.extractLsb' 8 4 ∧
    (edgeData d .offH).extractLsb' 0 4 ++ edgeData d .offL = d

/-- 20_memory.md R67: the address of an edge register is the sum the rule gives, does not wrap and does not
exceed 0xFD; with the defaults of 00_scope.md R8 it runs from 0x06 to 0x45. Decoding the address gives the
channel and the edge back, the identity that 30_encoding.md R107 marks as derived. -/
def Obligations.EdgeAddressNamesItsRegister : Prop :=
  (∀ (cfg : Config) (c : Channel) (x : Edge), cfg.wf = true →
    (edgeAddr cfg c x).toNat =
        cfg.chBase.toNat + 4 * c.val + (edgeOffsetOf cfg.edgeOffset x).toNat ∧
      (edgeAddr cfg c x).toNat ≤ 0xFD ∧ decodeReg cfg (edgeAddr cfg c x) = .edge c x) ∧
  edgeAddr Config.initial 0 .onL = 0x06#8 ∧ edgeAddr Config.initial 15 .offH = 0x45#8

/-! ### Reset and the step -/

/-- 70_reset_and_hazards.md R310, R311: a block reset is accepted in every phase, gives every register of
R311's table that has a stated value that value, leaves no result register written, so that a read of one
before its operation succeeds faults again, and touches neither the chip nor any interface. The written
marks are the model's (log 4); that the chip, the answers to come and the inputs stay is its reading
(log 23), and that a reset is one step's input is log 13. -/
def Obligations.BlockResetGivesResetState : Prop :=
  ∀ (s : State) (t : Bool) (rest : List Input), s.cfg.wf = true →
    s.inbox = ⟨t, .blockReset⟩ :: rest →
      ∃ u, step s = .next u ∧ u.mcs = .notStarted ∧ u.handle = none ∧ u.term = false ∧
        u.calAttempted = false ∧ u.err = ⟨0, 0⟩ ∧ u.seq = ⟨.idle, 0⟩ ∧
        u.gpioSetting = ⟨false, .unknown⟩ ∧ u.gpioPower = ⟨false, .unknown⟩ ∧ u.cfg = s.cfg ∧
        u.tr = [] ∧ motorTrusted u = false ∧ u.runActive = false ∧
        u.resDutyWritten = false ∧ u.resPrescWritten = false ∧ u.resSnapWritten = false ∧
        u.chip = s.chip ∧ u.env = s.env ∧ u.inbox = rest

/-- 10_state.md R21, 70_reset_and_hazards.md R311: a result register is not read before its operation
succeeded; until then the host's read stops the machine, as the rules ask of a model, afterwards it is
answered. The written marks are the model's (log 4). The statement covers Halted too, where that a read is
still answered or faults is the model's choice (log 22). -/
def Obligations.ResultReadNeedsItsOperation : Prop :=
  ∀ (s : State) (r : ResultReg) (t : Bool) (rest : List Input), s.cfg.wf = true →
    s.runActive = false → s.inbox = ⟨t, .readResult r⟩ :: rest →
      step s = if resultWritten r s then .next (takeInput s) else .fault (.resultNotWritten r)

/-- 30_encoding.md R109: a step at which the host issues a word that decodes to `i` is `exec i`, at the
state in which the input has been taken and, for a command, CMD holds its code. One input a step is the
model's choice (log 13), so are the latching of TERM at the start of the step (log 12) and, for a frame
word, that the port runs a single frame at all (log 15). -/
def Obligations.StepRunsDecodedInstruction : Prop :=
  ∀ (s : State) (i : Instr) (w : PortWord) (t : Bool) (rest : List Input), s.cfg.wf = true →
    s.inbox = ⟨t, .issue w⟩ :: rest → portAccepts s = true → decode s.cfg w = .ok i →
      step s = exec i (noteCommand w { s with term := s.term || t, inbox := rest })

/-- 10_state.md R21: the host's writes of the ARG registers; each leaves everything else alone but the
input taken and TERM latched (log 12, log 13). -/
def Obligations.ArgWritesChangeOneRegister : Prop :=
  ∀ (s : State) (t : Bool) (rest : List Input) (a : PortAction), s.cfg.wf = true →
    portAccepts s = true → s.inbox = ⟨t, a⟩ :: rest →
      (∀ v, a = .writeArgCh v → step s = .next { takeInput s with argCh := v }) ∧
      (∀ v, a = .writeArgDuty v → step s = .next { takeInput s with argDuty := v }) ∧
      (∀ v, a = .writeArgFrac v → step s = .next { takeInput s with argFrac := v }) ∧
      (∀ v, a = .writeArgFreq v → step s = .next { takeInput s with argFreq := v }) ∧
      (∀ v, a = .writeArgMode v → step s = .next { takeInput s with argMode := v })

/-- 00_scope.md R9, 43_control_loop.md R230: what the spec asks a model to refuse: a step under an
ill-formed CFG (log 20), and RUN SENSOR_TEST, which is given no meaning (log 19). That the refusal is the
step's is the model's choice (log 19, log 20). -/
def Obligations.IllFormedConfigAndSensorTestRefused : Prop :=
  (∀ s : State, s.cfg.wf = false → step s = .refused .illFormedConfig) ∧
  (∀ s : State, s.argMode = 2 → exec .opRun s = .refused .sensorTest)

/-- 43_control_loop.md R245, 10_state.md R27: in Halted no operation is accepted; a step only takes its
input. The reading of a result register is left to `ResultReadNeedsItsOperation` (log 22). That an input
in Halted is taken and dropped, TERM being latched, is the model's choice (log 12, log 22). -/
def Obligations.HaltedAcceptsNoOperation : Prop :=
  ∀ (s : State) (code : Nat), s.cfg.wf = true → s.seq.phase = .halted code → s.runActive = false →
    nextAction s ≠ .blockReset → (∀ r, nextAction s ≠ .readResult r) →
      step s = .next (takeInput s)

/-- 60_exceptions.md R284, 43_control_loop.md R230, 10_state.md R29: while RUN is in progress the port
accepts nothing, and a step is one TICK in which ERR is not cleared first: it does what a TICK issued
through CMD does, and where that raises nothing, ERR stays as it was before the step. One tick a step is the
model's choice (log 13, log 14), so is that the host's input is taken and dropped (log 22), TERM being
latched (log 12). -/
def Obligations.RunInProgressOnlyTicks : Prop :=
  ∀ s : State, s.cfg.wf = true → s.runActive = true → nextAction s ≠ .blockReset →
    (∀ u, exec .opTick (takeInput s) = .next u →
      step s = .next { u with err := if u.err.code = 0 then s.err else u.err }) ∧
    ∀ f, exec .opTick (takeInput s) = .fault f → step s = .fault f

/-- 30_encoding.md R112: a reserved command changes nothing but ERR, which becomes OutOfRangeError with
info 0xFFFF; the three forms are a reserved code, ARG_DUTY[15:12] not 0 for WRCH, ARG_MODE = 3 for RUN.
(CMD holds the byte the host wrote to it.) That the reserved form of WRCH is refused as such also where the
handle is missing is the order of log 18 (DEDUCED, unsafe); the input taken and TERM latched are log 12 and
log 13. -/
def Obligations.ReservedCommandsRefused : Prop :=
  (∀ (s : State) (code : Byte) (t : Bool) (rest : List Input), s.cfg.wf = true →
    portAccepts s = true → s.inbox = ⟨t, .issue (.cmd code)⟩ :: rest →
    (code.extractLsb' 4 4 ≠ 0#4 ∨ code.extractLsb' 0 4 = 0#4 ∨ 0xB ≤ (code.extractLsb' 0 4).toNat) →
      step s = .next { takeInput s with cmd := code, err := ⟨4, 0xFFFF⟩ }) ∧
  (∀ s : State, s.argDuty.extractLsb' 12 4 ≠ 0#4 → exec .opWrch s = .next { s with err := ⟨4, 0xFFFF⟩ }) ∧
  (∀ s : State, s.argMode = 3 → exec .opRun s = .next { s with err := ⟨4, 0xFFFF⟩ })

/-! ### The bus frames -/

/-- 20_memory.md R64, 30_encoding.md R106: each of the 68 WR frames whose transfer answers `ok` puts its
byte into its register, appends one event, and changes nothing else; PRESCALE is written in low-power mode
(70_reset_and_hazards.md R322). The need of an open handle and ERR's staying as it was are the model's
choice (log 15). -/
def Obligations.WriteFramesStoreTheirByte : Prop :=
  ∀ (s : State) (i : Instr) (r v : Byte) (h : Handle), s.cfg.wf = true → WriteRow s.cfg i r v →
    s.handle = some h → (r = regPrescale → s.chip.lowPower s.cfg = some true) →
    s.env.busOkFor 1 = true →
      exec i s = .next { s with
        env := s.env.dropBus 1
        tr := s.tr ++ [regwrEvent s.cfg r v true]
        chip := { s.chip with
          regs := s.chip.regs.write r.toNat v
          resetMode1 := if r = regMode1 then false else s.chip.resetMode1 } } ∧
      ∀ a, (s.chip.regs.write r.toNat v).read a = if a = r.toNat then some v else s.chip.regs.read a

/-- 20_memory.md R62, R64, 60_exceptions.md R272: a WR frame whose transfer answers `fail` raises
BusTransferError with phase 0 and the register; the register is new only if both bytes had arrived. How
many arrived is part of the answer (log 11); the need of an open handle is log 15. -/
def Obligations.FailedWriteFramesRaise : Prop :=
  ∀ (s : State) (i : Instr) (r v : Byte) (h : Handle) (n : Nat), s.cfg.wf = true →
    WriteRow s.cfg i r v → s.handle = some h →
    (r = regPrescale → s.chip.lowPower s.cfg = some true) → s.env.busFailsAt 0 n = true →
      exec i s = .next { s with
        env := s.env.dropBus 1
        tr := s.tr ++ [regwrEvent s.cfg r v false]
        err := ⟨1, infoWord 0x00 r⟩
        chip := if 2 ≤ n then { s.chip with
          regs := s.chip.regs.write r.toNat v
          resetMode1 := if r = regMode1 then false else s.chip.resetMode1 } else s.chip }

/-- 70_reset_and_hazards.md R322, 93_implementation_defined.md U2: a write of PRESCALE that reaches a chip
not known to be in low-power mode stops the machine (log 10). The need of an open handle is log 15. -/
def Obligations.PrescaleWriteWhileActiveFaults : Prop :=
  ∀ (s : State) (p : Byte) (h : Handle), s.cfg.wf = true → s.handle = some h →
    s.env.busOkFor 1 = true → s.chip.lowPower s.cfg ≠ some true →
      exec (.wrPrescale p) s = .fault .prescaleWhileActive

/-- 20_memory.md R65, R72: each of the 67 RD frames whose two transfers answer `ok` appends its two events
with what the register reads as, and changes nothing of the chip and nothing else of the block. A register
that holds a byte reads as it; one that nothing has written since the last reset reads as a free value, the
same at every read (93_implementation_defined.md U5, log 8). That a read frame by itself needs an open
handle, leaves ERR as it was and puts its byte into no block register is the model's choice (log 15). -/
def Obligations.ReadFramesAnswerTheRegister : Prop :=
  ∀ (s : State) (i : Instr) (r : Byte) (h : Handle), s.cfg.wf = true → ReadRow s.cfg i r →
    s.handle = some h → s.env.busOkFor 2 = true →
      exec i s = .next { s with
        env := s.env.dropBus 2
        tr := s.tr ++ regrdEvents s.cfg r (s.chip.load s.cfg r) } ∧
      ∀ b, s.chip.regs.read r.toNat = some b → s.chip.load s.cfg r = b

/-- 20_memory.md R65, 60_exceptions.md R272: an RD frame whose address-set phase fails raises
BusTransferError with phase 1 and makes no second transfer; one whose data phase fails raises it with
phase 2. The chip is unchanged either way. The need of an open handle is the model's choice (log 15). -/
def Obligations.FailedReadFramesRaise : Prop :=
  ∀ (s : State) (i : Instr) (r : Byte) (h : Handle) (n : Nat), s.cfg.wf = true → ReadRow s.cfg i r →
    s.handle = some h →
      (s.env.busFailsAt 0 n = true → exec i s = .next { s with
        env := s.env.dropBus 1
        tr := s.tr ++ [.busW s.cfg.devAddr [r] false]
        err := ⟨1, infoWord 0x01 r⟩ }) ∧
      (s.env.busFailsAt 1 n = true → exec i s = .next { s with
        env := s.env.dropBus 2
        tr := s.tr ++ [.busW s.cfg.devAddr [r] true, .busR s.cfg.devAddr 1 none]
        err := ⟨1, infoWord 0x02 r⟩ })

/-- 20_memory.md R79(b): a read frame issued after a successful write frame of the same register answers
the byte written. The rest of the read frame's next state, ERR as it was and the byte in no block register,
is the model's choice for a frame by itself (log 15). -/
def Obligations.ReadAfterWriteAnswersTheByte : Prop :=
  ∀ (s t : State) (i j : Instr) (r v : Byte) (h : Handle), s.cfg.wf = true → WriteRow s.cfg i r v →
    ReadRow s.cfg j r → s.handle = some h → s.env.busOkFor 3 = true → exec i s = .next t →
      exec j t = .next { t with
        env := t.env.dropBus 2
        tr := t.tr ++ regrdEvents s.cfg r v }

/-- 20_memory.md R66, R71(a), R72: the SWRST frame. Answered `ok` it leaves every register of the chip
unwritten, MODE1 reading with the sleep bit set (log 9), the chip in low-power mode and every output
de-asserted; answered `fail` it raises ResetError, the chip being reset only if the byte had arrived
(log 11). That the frame by itself needs an open handle, makes no settle wait and, answered `ok`, leaves
ERR as it was is the model's choice (log 15). -/
def Obligations.SwrstResetsTheChip : Prop :=
  ∀ (s : State) (h : Handle) (n : Nat), s.cfg.wf = true → s.handle = some h →
    (s.env.busOkFor 1 = true →
      ∃ chip, exec .swrst s = .next { s with
          env := s.env.dropBus 1
          tr := s.tr ++ [swrstEvent s.cfg true]
          chip := chip } ∧
        (∀ a, chip.regs.read a = none) ∧ chip.lowPower s.cfg = some true ∧
        lowPowerBit s.cfg (chip.load s.cfg regMode1) = true ∧
        ∀ c, chip.output s.cfg c = .deasserted) ∧
    (s.env.busFailsAt 0 n = true → exec .swrst s = .next { s with
      env := s.env.dropBus 1
      tr := s.tr ++ [swrstEvent s.cfg false]
      err := ⟨2, 0x0000⟩
      chip := if 1 ≤ n then s.chip.softwareReset else s.chip })

/-- 40_register_protocol.md R140(d), 10_state.md R24: without a handle every bus frame and every operation
that needs the bus is refused: ERR becomes BusTransferError with phase 3, and nothing else changes. For a
frame by itself this is the model's choice (log 15). -/
def Obligations.BusNeedsAnOpenHandle : Prop :=
  ∀ (s : State) (i : Instr), s.handle = none →
    (i = .swrst ∨ (∃ r v, WriteRow s.cfg i r v) ∨ (∃ r, ReadRow s.cfg i r) ∨ i = .opReset ∨
      i = .opRdall ∨ i = .opTick ∨ (i = .opWrch ∧ s.argDuty.extractLsb' 12 4 = 0#4) ∨
      (i = .opCal ∧ s.mcs ≠ .done ∧ s.cfg.requiresHandshake = true)) →
      exec i s = .next { s with err := ⟨1, 0x0300⟩ }

/-! ### PRESC and MAP -/

/-- 40_register_protocol.md R141: PRESC writes RES_PRESC with the integer nearest to
25 000 000 / (4096 f), less 1, for exactly the frequencies 24 to 12207, and raises OutOfRangeError for
every other; it touches nothing else but ERR. -/
def Obligations.PrescComputesThePrescale : Prop :=
  ∀ s : State,
    (24 ≤ s.argFreq.toNat ∧ s.argFreq.toNat ≤ 12207 →
      ∃ p : Byte, |(25000000 : ℚ) / (4096 * s.argFreq.toNat) - (p.toNat + 1)| < 1 / 2 ∧
        exec .opPresc s = .next { s with err := ⟨0, 0⟩, resPresc := p, resPrescWritten := true }) ∧
    (s.argFreq.toNat < 24 ∨ 12207 < s.argFreq.toNat →
      exec .opPresc s = .next { s with err := ⟨4, 0x0200⟩ })

/-- 41_duty_mapper.md R182, R184: for a channel of the block and a fraction in [0,1], MAP writes RES_DUTY
with min_count + floor(span × e + 1/2), exact over the rationals, and touches nothing else but ERR. The
binary32 format is log 25 (PRESUMED). -/
def Obligations.MapComputesTheDuty : Prop :=
  ∀ (s : State) (c : Channel) (x : Int), s.cfg.wf = true → s.argCh.toNat = c.val →
    f32Value s.argFrac = .finite x → 0 ≤ x → x ≤ 2 ^ 149 →
      let e := s.cfg.cal.get c
      let f : ℚ := x / 2 ^ 149
      let span : ℚ := e.maxCount.toNat - e.minCount.toNat
      exec .opMap s = .next { s with
        err := ⟨0, 0⟩
        resDuty := BitVec.ofNat 12
          (e.minCount.toNat + ⌊span * (if e.invert then 1 - f else f) + 1 / 2⌋.toNat)
        resDutyWritten := true }

/-- 41_duty_mapper.md R182, R183: the range check. The channel is checked before the fraction; the accepted
words are exactly 0x00000000 to 0x3F800000 and 0x80000000, which R183 derives from R181; nothing is clamped.
ERR's codes and info are 60_exceptions.md R271's. The binary32 format is log 25 (PRESUMED). -/
def Obligations.MapRejectsOutOfRange : Prop :=
  ∀ s : State,
    (15 < s.argCh.toNat → exec .opMap s = .next { s with err := ⟨4, 0x00#8 ++ s.argCh⟩ }) ∧
    (s.argCh.toNat ≤ 15 →
      (s.argFrac.toNat ≤ 0x3F800000 ∨ s.argFrac = 0x80000000#32 →
        ∃ d, exec .opMap s = .next { s with err := ⟨0, 0⟩, resDuty := d, resDutyWritten := true }) ∧
      (¬ (s.argFrac.toNat ≤ 0x3F800000 ∨ s.argFrac = 0x80000000#32) →
        exec .opMap s = .next { s with err := ⟨4, 0x01#8 ++ s.argCh⟩ }))

/-- 41_duty_mapper.md R182, R184(a), R185 (derived there from R182 and R184): MAP of an entry with
min_count < max_count: endpoints, neutral, the result inside the entry's range, and monotone in the
fraction, increasing or, inverted, decreasing. The binary32 format is log 25 (PRESUMED). -/
def Obligations.MapLawsHold : Prop :=
  ∀ e : CalEntry, e.minCount.toNat < e.maxCount.toNat →
    mapDuty e zeroWord = some (zeroDuty e) ∧ mapDuty e oneWord = some (fullDuty e) ∧
    mapDuty e neutralWord = some (neutralDuty e) ∧
    (∀ w d, mapDuty e w = some d → e.minCount.toNat ≤ d.toNat ∧ d.toNat ≤ e.maxCount.toNat) ∧
    (∀ w w' x x' d d', mapDuty e w = some d → mapDuty e w' = some d' →
      f32Value w = .finite x → f32Value w' = .finite x' → x ≤ x' →
        (e.invert = false → d.toNat ≤ d'.toNat) ∧ (e.invert = true → d'.toNat ≤ d.toNat)) ∧
    (∀ w x, f32Value w = .finite x → 0 ≤ x → x ≤ 2 ^ 149 → ∃ d, mapDuty e w = some d)

/-! ### OPEN and RESET -/

/-- 40_register_protocol.md R142: an OPEN in which every step succeeds. An open handle is closed first; the
five transfers and two waits follow in order; the chip holds M1_RUN, M2_INIT and the prescale and nothing
else is written; HANDLE holds the connection, an opaque token (log 27), and the prescale. -/
def Obligations.OpenConfiguresTheChip : Prop :=
  ∀ (s : State) (conn : Nat), s.cfg.wf = true → s.env.storage.head = true →
    s.env.busOpen.head = some conn → s.env.busOkFor 5 = true →
      ∃ p, prescaleOf s.cfg.freqHz = some p ∧
        exec .opOpen s = .next { s with
          err := ⟨0, 0⟩
          handle := some ⟨conn, p⟩
          tr := s.tr ++ (if s.handle.isSome then [.busClose] else []) ++ openEvents s.cfg p
          chip := openedChip s.cfg p (s.chip.resets + 1)
          env := { s.env.dropBus 5 with storage := s.env.storage.tail, busOpen := s.env.busOpen.tail } }

/-- 40_register_protocol.md R142, 60_exceptions.md R274, R280: OPEN whose storage is not to be had raises
AllocationError before any bus activity; one whose bus does not open raises BusTransferError with phase 3;
one whose reset fails raises ResetError, closes the bus and writes no register, the chip being reset only if
the byte had arrived (20_memory.md R62, log 11). -/
def Obligations.OpenFailsBeforeConfiguring : Prop :=
  ∀ (s : State) (conn n : Nat), s.cfg.wf = true →
    let closed := s.tr ++ (if s.handle.isSome then [.busClose] else [])
    (s.env.storage.head = false → exec .opOpen s = .next { s with
      err := ⟨3, 0x0000⟩, handle := none, tr := closed
      env := { s.env with storage := s.env.storage.tail } }) ∧
    (s.env.storage.head = true → s.env.busOpen.head = none → exec .opOpen s = .next { s with
      err := ⟨1, 0x0300⟩, handle := none, tr := closed ++ [.busOpen false]
      env := { s.env with storage := s.env.storage.tail, busOpen := s.env.busOpen.tail } }) ∧
    (s.env.storage.head = true → s.env.busOpen.head = some conn → s.env.busFailsAt 0 n = true →
      exec .opOpen s = .next { s with
        err := ⟨2, 0x0000⟩, handle := none
        tr := closed ++ [.busOpen true, swrstEvent s.cfg false, .busClose]
        chip := if 1 ≤ n then s.chip.softwareReset else s.chip
        env := { s.env.dropBus 1 with
          storage := s.env.storage.tail, busOpen := s.env.busOpen.tail } })

/-- 40_register_protocol.md R142, 70_reset_and_hazards.md R328: an OPEN whose k-th register write fails
raises BusTransferError with that register, makes no later write, closes the bus and leaves HANDLE None. The
chip stays partly configured: reset, with the writes before the failed one made, and the failed one only if
both its bytes had arrived (20_memory.md R62, log 11). -/
def Obligations.OpenFailsWhileConfiguring : Prop :=
  ∀ (s : State) (conn n k : Nat) (p : Byte) (rv : Byte × Byte), s.cfg.wf = true →
    prescaleOf s.cfg.freqHz = some p → s.env.storage.head = true → s.env.busOpen.head = some conn →
    (openWrites s.cfg p)[k]? = some rv → s.env.busFailsAt (k + 1) n = true →
      let made := (openWrites s.cfg p).take (if 2 ≤ n then k + 1 else k)
      exec .opOpen s = .next { s with
        err := ⟨1, infoWord 0x00 rv.1⟩
        handle := none
        tr := s.tr ++ (if s.handle.isSome then [.busClose] else []) ++
          (openEvents s.cfg p).take (k + 3 + (if 2 ≤ k then 1 else 0)) ++
          [regwrEvent s.cfg rv.1 rv.2 false, .busClose]
        chip := {
          regs := made.foldl (fun m rv => m.write rv.1.toNat rv.2) []
          resetMode1 := made.all fun rv => rv.1 != regMode1
          resets := s.chip.resets + 1 }
        env := { s.env.dropBus (k + 2) with
          storage := s.env.storage.tail, busOpen := s.env.busOpen.tail } }

/-- 40_register_protocol.md R143: RESET is the SWRST frame and its settle wait; a failed frame raises
ResetError and skips the wait, the chip being reset only if the byte had arrived (20_memory.md R62, log 11).
HANDLE, MCS and everything else of the block stay. -/
def Obligations.ResetSendsTheBroadcast : Prop :=
  ∀ (s : State) (h : Handle) (n : Nat), s.cfg.wf = true → s.handle = some h →
    (s.env.busOkFor 1 = true → exec .opReset s = .next { s with
      err := ⟨0, 0⟩
      tr := s.tr ++ [swrstEvent s.cfg true, .delay .settle]
      chip := s.chip.softwareReset
      env := s.env.dropBus 1 }) ∧
    (s.env.busFailsAt 0 n = true → exec .opReset s = .next { s with
      err := ⟨2, 0x0000⟩
      tr := s.tr ++ [swrstEvent s.cfg false]
      chip := if 1 ≤ n then s.chip.softwareReset else s.chip
      env := s.env.dropBus 1 })

/-! ### WRCH and RDALL -/

/-- 40_register_protocol.md R144, R149: a WRCH in which every write succeeds appends exactly the four
frames in the fixed order, with no other event between them, writes those four registers and changes
nothing else. -/
def Obligations.WrchWritesFourRegistersInOrder : Prop :=
  ∀ (s : State) (h : Handle) (c : Channel), s.cfg.wf = true → s.handle = some h →
    s.argCh.toNat = c.val → s.argDuty.extractLsb' 12 4 = 0#4 → s.env.busOkFor 4 = true →
      let d : Duty := s.argDuty.extractLsb' 0 12
      exec .opWrch s = .next { s with
        err := ⟨0, 0⟩
        tr := s.tr ++ [regwrEvent s.cfg (edgeAddr s.cfg c .onL) 0x00#8 true,
          regwrEvent s.cfg (edgeAddr s.cfg c .onH) 0x00#8 true,
          regwrEvent s.cfg (edgeAddr s.cfg c .offL) (d.extractLsb' 0 8) true,
          regwrEvent s.cfg (edgeAddr s.cfg c .offH) (0#4 ++ d.extractLsb' 8 4) true]
        chip := { s.chip with regs := wrchRegs s.cfg c d s.chip.regs }
        env := s.env.dropBus 4 } ∧
      (∀ x, (wrchRegs s.cfg c d s.chip.regs).read (edgeAddr s.cfg c x).toNat = some (edgeData d x)) ∧
      ∀ a, (∀ x, a ≠ (edgeAddr s.cfg c x).toNat) →
        (wrchRegs s.cfg c d s.chip.regs).read a = s.chip.regs.read a

/-- 40_register_protocol.md R144, 70_reset_and_hazards.md R320: a WRCH whose k-th write fails raises
BusTransferError with that register; the writes before it stay, those after it are not made, and the chip
holds the mixture, in which the failed register is new only if both its bytes had arrived (20_memory.md R62,
log 11). -/
def Obligations.WrchStopsAtTheFailedWrite : Prop :=
  ∀ (s : State) (h : Handle) (c : Channel) (k n : Nat) (x : Edge), s.cfg.wf = true →
    s.handle = some h → s.argCh.toNat = c.val → s.argDuty.extractLsb' 12 4 = 0#4 →
    edgeOrder[k]? = some x → s.env.busFailsAt k n = true →
      let d : Duty := s.argDuty.extractLsb' 0 12
      let done := (edgeOrder.take k).foldl
        (fun m y => m.write (edgeAddr s.cfg c y).toNat (edgeData d y)) s.chip.regs
      exec .opWrch s = .next { s with
        err := ⟨1, infoWord 0x00 (edgeAddr s.cfg c x)⟩
        tr := s.tr ++ (wrchEvents s.cfg c d).take k ++
          [regwrEvent s.cfg (edgeAddr s.cfg c x) (edgeData d x) false]
        chip := { s.chip with
          regs := if 2 ≤ n then done.write (edgeAddr s.cfg c x).toNat (edgeData d x) else done }
        env := s.env.dropBus (k + 1) }

/-- 40_register_protocol.md R144, 60_exceptions.md R275: a channel above 15 is rejected before any I/O. -/
def Obligations.WrchRejectsTheChannel : Prop :=
  ∀ (s : State) (h : Handle), s.handle = some h → s.argDuty.extractLsb' 12 4 = 0#4 →
    15 < s.argCh.toNat → exec .opWrch s = .next { s with err := ⟨4, 0x00#8 ++ s.argCh⟩ }

/-- 20_memory.md R72, R84, 30_encoding.md R108, 70_reset_and_hazards.md R313: after the four writes of a
channel its registers read as the bytes written, on any chip, and their view is ON 0, OFF `d`, the status bits
clear, `d` = 0 included. On a chip configured as OPEN leaves it the channel's output, for `d` other than 0, is
high for `d` of every 4096 counts; for `d` = 0 it has no value (70_reset_and_hazards.md R321); the other
channels' outputs are as before. Which registers stand for "OPEN has completed" is the model's choice (log 26); bit 4 as the status bit
is log 35. -/
def Obligations.WrittenChannelDrivesItsDuty : Prop :=
  ∀ (cfg : Config) (chip : Chip) (c : Channel) (d : Duty), cfg.wf = true →
    let after := { chip with regs := wrchRegs cfg c d chip.regs }
    (∀ x, after.load cfg (edgeAddr cfg c x) = edgeData d x) ∧
    channelView (after.load cfg (edgeAddr cfg c .onL)) (after.load cfg (edgeAddr cfg c .onH))
        (after.load cfg (edgeAddr cfg c .offL)) (after.load cfg (edgeAddr cfg c .offH)) =
      ⟨0, d, false, false, 0, 0⟩ ∧
    (chip.resetMode1 = false → chip.configured cfg = true →
      after.output cfg c = (if d = 0 then .noValue else .pulse d.toNat) ∧
      ∀ c', c' ≠ c → after.output cfg c' = chip.output cfg c')

/-- 40_register_protocol.md R145, 30_encoding.md R108: an RDALL in which every read succeeds makes the 67
reads in order, puts what the 67 registers read as into RES_SNAP, and changes nothing of the chip. A register
that holds a byte reads as it, one that does not as its draw of the last reset (93_implementation_defined.md
U5, log 8). The decoded view of RES_SNAP is that of the registers, the PWM frequency
OSC_HZ / (4096 × (PRESCALE + 1)) (bit 4 as the status bit, log 35). -/
def Obligations.RdallReadsEveryRegister : Prop :=
  ∀ (s : State) (h : Handle), s.cfg.wf = true → s.handle = some h → s.env.busOkFor 134 = true →
    let reads := s.chip.load s.cfg
    let bytes := (readAllOrder s.cfg).map reads
    exec .opRdall s = .next { s with
      err := ⟨0, 0⟩
      resSnap := bytes
      resSnapWritten := true
      tr := s.tr ++ (readAllOrder s.cfg).flatMap fun r => regrdEvents s.cfg r (reads r)
      env := s.env.dropBus 134 } ∧
    bytes.length = 67 ∧ (∀ r b, s.chip.regs.read r.toNat = some b → reads r = b) ∧
    (snapView s.cfg bytes).lowPower = lowPowerBit s.cfg (reads regMode1) ∧
    (snapView s.cfg bytes).frequency = 25000000 / (4096 * ((reads regPrescale).toNat + 1)) ∧
    ∀ c, (snapView s.cfg bytes).channel.get c =
      channelView (reads (edgeAddr s.cfg c .onL)) (reads (edgeAddr s.cfg c .onH))
        (reads (edgeAddr s.cfg c .offL)) (reads (edgeAddr s.cfg c .offH))

/-- 40_register_protocol.md R145, 20_memory.md R65: an RDALL whose k-th read fails raises BusTransferError
with phase 1 or 2, as its address-set or its data transfer failed, and that register; the reads before it
stand in TR, those after it are not made, and RES_SNAP and the chip are as they were. Whatever the bus
answers, an RDALL ends (70_reset_and_hazards.md R333). -/
def Obligations.RdallKeepsResultOnError : Prop :=
  ∀ (s : State) (h : Handle), s.cfg.wf = true → s.handle = some h →
    (∀ (k n : Nat) (r : Byte), (readAllOrder s.cfg)[k]? = some r →
      let before := s.tr ++
        ((readAllOrder s.cfg).take k).flatMap fun q => regrdEvents s.cfg q (s.chip.load s.cfg q)
      (s.env.busFailsAt (2 * k) n = true → exec .opRdall s = .next { s with
        err := ⟨1, infoWord 0x01 r⟩
        tr := before ++ [.busW s.cfg.devAddr [r] false]
        env := s.env.dropBus (2 * k + 1) }) ∧
      (s.env.busFailsAt (2 * k + 1) n = true → exec .opRdall s = .next { s with
        err := ⟨1, infoWord 0x02 r⟩
        tr := before ++ [.busW s.cfg.devAddr [r] true, .busR s.cfg.devAddr 1 none]
        env := s.env.dropBus (2 * k + 2) })) ∧
    (s.env.responsive = true → ∃ t, exec .opRdall s = .next t ∧
      t = { s with
        err := t.err, resSnap := t.resSnap, resSnapWritten := t.resSnapWritten, tr := t.tr
        env := { s.env with bus := t.env.bus } } ∧
      ((t.err = ⟨0, 0⟩ ∧ t.resSnap.length = 67 ∧ t.resSnapWritten = true) ∨ (t.resSnap = s.resSnap ∧ t.resSnapWritten = s.resSnapWritten ∧
        ∃ r ∈ readAllOrder s.cfg, t.err = ⟨1, infoWord 0x01 r⟩ ∨ t.err = ⟨1, infoWord 0x02 r⟩)))

/-! ### CAL -/

/-- 42_motor_calibration.md R212: with REQUIRES_HANDSHAKE false, CAL sets CAL_ATTEMPTED and MCS and does
nothing else, handle or not; the motor channel is trusted from then on. -/
def Obligations.CalWithoutHandshakeTrustsAtOnce : Prop :=
  ∀ s : State, s.cfg.requiresHandshake = false → s.mcs ≠ .done →
    exec .opCal s = .next { s with err := ⟨0, 0⟩, calAttempted := true, mcs := .done } ∧
      motorTrusted { s with err := ⟨0, 0⟩, calAttempted := true, mcs := .done } = true

/-- 42_motor_calibration.md R211: CAL with MCS at Done does nothing and reports no error. -/
def Obligations.CalWhenDoneDoesNothing : Prop :=
  ∀ s : State, s.mcs = .done → exec .opCal s = .next { s with err := ⟨0, 0⟩ }

/-- 42_motor_calibration.md R202 to R207: a CAL in which every action succeeds makes the five transitions
in order and nothing else, writes the motor channel's four registers, ends with MCS at Done in the phase it
was entered from, and gives the lines back where they are transient. -/
def Obligations.CalHandshakeRunsFiveTransitions : Prop :=
  ∀ (s : State) (h : Handle), s.cfg.wf = true → s.handle = some h → s.mcs ≠ .done →
    s.cfg.requiresHandshake = true → s.env.busOkFor 12 = true →
    s.env.gpioOkFor (calGpioActions s.cfg) = true → s.env.releasesFor (calReleases s.cfg) = true →
      exec .opCal s = .next { s with
        err := ⟨0, 0⟩
        calAttempted := true
        mcs := .done
        gpioSetting := settingAfterCal s.cfg
        gpioPower := powerAfterCal s.cfg s.gpioPower
        tr := s.tr ++ calEvents s.cfg
        chip := { s.chip with regs := calRegs s.cfg s.chip.regs }
        env := ((s.env.dropBus 12).dropGpio (calGpioActions s.cfg)).dropRelease (calReleases s.cfg) }

/-- 42_motor_calibration.md R213, derived there from R201 to R207: the trace of a successful CAL, event by
event, for the configuration the rule works, without and with a power line. -/
def Obligations.CalTraceOfTheWorkedExample : Prop :=
  ∀ (s : State) (h : Handle), s.cfg.wf = true → s.handle = some h → s.mcs = .notStarted →
    s.cfg.requiresHandshake = true → s.cfg.gpioTransient = true → s.cfg.motorCh = 0 →
    s.cfg.cal.get 0 = ⟨100, 420, false⟩ → s.cfg.chBase = 0x06#8 →
    s.cfg.edgeOffset = ⟨0, 1, 2, 3⟩ → s.env.busOkFor 12 = true → s.env.gpioOkFor 11 = true →
    s.env.releasesFor 2 = true →
      let w := fun r v => Event.busW s.cfg.devAddr [r, v] true
      let pulse : List Event := [.gpioSet .setting true true, .delay .pulse,
        .gpioSet .setting false true, .delay .learn]
      let middle : List Event :=
        [.gpioReq .setting true, .gpioSet .setting true true, .delay .hold,
          .gpioSet .setting false true,
          w 0x06#8 0x00#8, w 0x07#8 0x00#8, w 0x08#8 0x04#8, w 0x09#8 0x01#8] ++ pulse ++
        [w 0x06#8 0x00#8, w 0x07#8 0x00#8, w 0x08#8 0xA4#8, w 0x09#8 0x01#8] ++ pulse ++
        [w 0x06#8 0x00#8, w 0x07#8 0x00#8, w 0x08#8 0x64#8, w 0x09#8 0x00#8] ++ pulse ++
        [.gpioRel .setting]
      ∃ t, exec .opCal s = .next t ∧ t.mcs = .done ∧
        t.tr = s.tr ++
          (if s.cfg.powerLinePresent then [.gpioReq .power true, .gpioSet .power true true] else []) ++
          middle ++ (if s.cfg.powerLinePresent then [.gpioRel .power] else [])

/-- 42_motor_calibration.md R200, R208, R209, 70_reset_and_hazards.md R333: whatever the bus and the lines
answer, a handshake ends at Done or at NotStarted, in the phase it was entered from; where it was aborted
no line stays held, its last event is the log of the error, which is BusTransferError or
CalibrationAbortedError. -/
def Obligations.CalEndsDoneOrAborted : Prop :=
  ∀ (s : State) (h : Handle), s.cfg.wf = true → s.handle = some h → s.mcs ≠ .done →
    s.cfg.requiresHandshake = true → s.env.responsive = true →
      ∃ t, exec .opCal s = .next t ∧ t.calAttempted = true ∧ t.seq = s.seq ∧
        t = { s with
          err := t.err, calAttempted := true, mcs := t.mcs, gpioSetting := t.gpioSetting
          gpioPower := t.gpioPower, tr := t.tr, chip := t.chip
          env := { s.env with bus := t.env.bus, gpio := t.env.gpio, release := t.env.release } } ∧
        ((t.mcs = .done ∧ t.err = ⟨0, 0⟩) ∨
          (t.mcs = .notStarted ∧ motorTrusted t = false ∧
            t.gpioSetting.held = false ∧ t.gpioPower.held = false ∧
            (t.err.code = 1 ∨ t.err.code = 5) ∧
            t.tr.getLast? = some (.log .calAbort t.err.info)))

/-- 42_motor_calibration.md R201 to R209: a CAL whose k-th action fails, in whichever transition: a refused
request of a line, a failed write of one, a failed register write of the motor channel. ERR names the
transition and the line, or the register; the actions before it stand, none after it is performed; the lines
requested so far are released, SETTING first, then comes the log of the error; MCS is NotStarted in the phase
CAL was entered from; the chip keeps the writes made, the failed one only if both its bytes had arrived
(20_memory.md R62, log 11). Where one of those releases never returns the machine is stuck
(70_reset_and_hazards.md R333, log 7). The level of a line after a failed request is log 24. -/
def Obligations.CalAbortsAtTheFailedAction : Prop :=
  ∀ (s : State) (h : Handle) (k n : Nat) (a : CalAction), s.cfg.wf = true → s.handle = some h →
    s.mcs ≠ .done → s.cfg.requiresHandshake = true → s.gpioSetting.held = false →
    s.gpioPower.held = false → calFailsAt s.cfg k n a s.env = true →
      let before := (calActions s.cfg).take k
      let upTo := (calActions s.cfg).take (k + 1)
      let made := if 2 ≤ n then upTo else before
      let requests := before.countP CalAction.isRequest
      (s.env.releasesFor requests = true → exec .opCal s = .next { s with
        err := a.err
        calAttempted := true
        mcs := .notStarted
        gpioSetting := if .request 1 .setting ∈ upTo then ⟨false, .unknown⟩ else s.gpioSetting
        gpioPower := if .request 1 .power ∈ upTo then ⟨false, .unknown⟩ else s.gpioPower
        tr := s.tr ++ before.map (CalAction.event s.cfg true) ++ [a.event s.cfg false] ++
          (if .request 1 .setting ∈ before then [.gpioRel .setting] else []) ++
          (if .request 1 .power ∈ before then [.gpioRel .power] else []) ++
          [.log .calAbort a.err.info]
        chip := { s.chip with regs := made.foldl CalAction.regs s.chip.regs }
        env := ((s.env.dropBus (upTo.countP CalAction.isWrite)).dropGpio
          (upTo.countP CalAction.isGpio)).dropRelease requests }) ∧
      ∀ j, j < requests → s.env.releaseHangsAt j = true → exec .opCal s = .fault (.blocked .gpio)

/-! ### TICK -/

/-- 43_control_loop.md R234, R239, R242(a): a tick whose clearance lies below the threshold writes the motor
channel with MAP of 0.5, after the log event of an untrusted channel, sleeps, and does nothing else: no
semaphore, no snapshot, no other channel, no calibration. Where one of the four writes fails, the tick stops
there, logs the failure and sleeps all the same (43_control_loop.md R238, 60_exceptions.md R278), ERR is that
BusTransferError and the chip holds the mixture (70_reset_and_hazards.md R320; the bytes that arrived,
20_memory.md R62, log 11). -/
def Obligations.TickOverrideWritesOnlyNeutral : Prop :=
  ∀ (s : State) (h : Handle) (r : F64), s.cfg.wf = true → s.handle = some h → s.term = false →
    s.cfg.sensorConfigured = true → s.env.sensor.head = .got r → below r s.cfg.minClearance = true →
      let c := s.cfg.motorCh
      let d := neutralDuty (s.cfg.cal.get c)
      let before := s.tr ++ [.sense r] ++ (if s.mcs = .done then [] else [.log .uncal (channelInfo c)])
      (s.env.busOkFor 4 = true → exec .opTick s = .next { s with
        err := ⟨0, 0⟩
        clr := r
        tr := before ++ wrchEvents s.cfg c d ++ [.delay .tick]
        chip := { s.chip with regs := wrchRegs s.cfg c d s.chip.regs }
        env := { s.env.dropBus 4 with sensor := s.env.sensor.tail } }) ∧
      ∀ f : FailedWrite, s.env.busFailsAt (writesBefore f.edge) f.delivered = true →
        exec .opTick s = .next { s with
          err := ⟨1, infoWord 0x00 (edgeAddr s.cfg c f.edge)⟩
          clr := r
          tr := before ++ stoppedEvents s.cfg c d f ++ [.log .actFail (channelInfo c), .delay .tick]
          chip := { s.chip with regs := stoppedRegs s.cfg c d f s.chip.regs }
          env := { s.env.dropBus (writesBefore f.edge + 1) with sensor := s.env.sensor.tail } }

/-- 43_control_loop.md R236: on an invalid snapshot no frame is sent and the chip keeps every channel's
last duty: the tick reads the clearance where a sensor is configured, copies the snapshot and sleeps. -/
def Obligations.TickInvalidSnapshotSendsNothing : Prop :=
  ∀ (s : State) (h : Handle) (r : F64) (snap : Snapshot), s.handle = some h → s.term = false →

    (s.cfg.sensorConfigured = true →
      s.env.sensor.head = .got r ∧ below r s.cfg.minClearance = false) →
    s.env.shm.head = .got snap → snap.valid = 0 →
      exec .opTick s = .next { s with
        err := ⟨0, 0⟩
        clr := if s.cfg.sensorConfigured then r else s.clr
        snap := snap
        tr := s.tr ++ (if s.cfg.sensorConfigured then [.sense r] else []) ++
          [.semAcq, .semRel, .delay .tick]
        env := { s.env with
          sensor := if s.cfg.sensorConfigured then s.env.sensor.tail else s.env.sensor
          shm := s.env.shm.tail } }

/-- 43_control_loop.md R235 to R239, R241, R242(b), 60_exceptions.md R278: a tick with a valid snapshot in
which no calibration starts (also where one is due but the motor fraction is out of range), whichever of its
writes fail. Channel by channel, in ascending order: an active
channel is written with MAP of its fraction, an inactive one with MAP of 0.5, one whose fraction is out of
range only logged; a channel one of whose writes fails stops there, is logged, and the later channels are
written all the same; then the sleep. ERR shows the last raise, the chip the mixture of a failed channel
(70_reset_and_hazards.md R320; the bytes that arrived, log 11). That SEQ.idx is 15 after it is log 33
(DEDUCED). -/
def Obligations.TickActuatesEveryChannel : Prop :=
  ∀ (s : State) (h : Handle) (r : F64) (snap : Snapshot) (fails : TickFailures), s.cfg.wf = true →
    s.handle = some h → s.term = false →
    (s.cfg.sensorConfigured = true →
      s.env.sensor.head = .got r ∧ below r s.cfg.minClearance = false) →
    s.env.shm.head = .got snap → snap.valid ≠ 0 → ¬ startsCal s snap →
    tickAnswers s.cfg snap fails channels s.env = true →
      exec .opTick s = .next { s with
        err := channels.foldl (tickChannelErr s.cfg snap fails) ⟨0, 0⟩
        clr := if s.cfg.sensorConfigured then r else s.clr
        snap := snap
        seq := ⟨s.seq.phase, 15⟩
        tr := s.tr ++ (if s.cfg.sensorConfigured then [.sense r] else []) ++ [.semAcq, .semRel] ++
          channels.flatMap (tickChannelEvents s.cfg s.mcs snap fails) ++ [.delay .tick]
        chip := { s.chip with regs := channels.foldl (tickChannelRegs s.cfg snap fails) s.chip.regs }
        env := { s.env.dropBus (tickTransfers s.cfg snap fails) with
          sensor := if s.cfg.sensorConfigured then s.env.sensor.tail else s.env.sensor
          shm := s.env.shm.tail } }

/-- 43_control_loop.md R237, R242(b), 70_reset_and_hazards.md R320: what those writes leave in the chip: each
channel whose writes succeed holds its duty; one whose write failed holds the new bytes up to it and the old
ones after it, the failed register being new only if both bytes had arrived (log 11); every other register
is as before. -/
def Obligations.TickLeavesEachChannelItsDuty : Prop :=
  ∀ (cfg : Config) (snap : Snapshot) (fails : TickFailures) (m : Memory), cfg.wf = true →
    let after := channels.foldl (tickChannelRegs cfg snap fails) m
    (∀ c d x, tickDuty cfg snap c = some d → fails c = none →
      after.read (edgeAddr cfg c x).toNat = some (edgeData d x)) ∧
    (∀ c d f x, tickDuty cfg snap c = some d → fails c = some f →
      after.read (edgeAddr cfg c x).toNat =
        if writesBefore x < writesBefore f.edge ∨ (x = f.edge ∧ 2 ≤ f.delivered) then
          some (edgeData d x)
        else m.read (edgeAddr cfg c x).toNat) ∧
    (∀ c, (snap.ch.get c).active = 0 → tickDuty cfg snap c = some (neutralDuty (cfg.cal.get c))) ∧
    (∀ c, (snap.ch.get c).active ≠ 0 →
      tickDuty cfg snap c = mapDuty (cfg.cal.get c) (snap.ch.get c).pulseFrac) ∧
    ∀ a, (∀ c x, (tickDuty cfg snap c).isSome = true → a ≠ (edgeAddr cfg c x).toNat) →
      after.read a = m.read a

/-- 43_control_loop.md R231, R238, 42_motor_calibration.md R211, R212, 60_exceptions.md R279: with CAL_POLICY
ON_FIRST_MOTOR_WRITE, the first valid tick whose motor fraction is in range runs CAL once. Its handshake,
where one is required, comes after the channels before the motor's and just before the motor channel's own
four frames, which carry the duty MAP gave before it; where every action succeeds the motor channel is
trusted after it and its write is not logged as uncalibrated. Whatever CAL comes to, done at once, done or
aborted, and whichever channel writes fail, the tick is the channels before the motor's, then CAL, then the
motor's and the rest: an error of CAL stands in ERR and is absorbed, the motor channel is written all the same,
and logged as uncalibrated where CAL was aborted; where CAL stops the machine so does the tick. A failed channel
write is logged and the tick goes on (60_exceptions.md R278); the chip then holds the mixture of that channel
(70_reset_and_hazards.md R320), the failed register new only if both its bytes had arrived (20_memory.md R62,
log 11, DESIGN CHOICE). That SEQ.idx is 15 after it is log 33 (DEDUCED). -/
def Obligations.TickCalibratesOnFirstMotorWrite : Prop :=
  ∀ (s : State) (h : Handle) (r : F64) (snap : Snapshot), s.cfg.wf = true → s.handle = some h →
    s.term = false →
    (s.cfg.sensorConfigured = true →
      s.env.sensor.head = .got r ∧ below r s.cfg.minClearance = false) →
    s.env.shm.head = .got snap → snap.valid ≠ 0 → startsCal s snap →
      (s.env.busOkFor (lazyTickTransfers s.cfg snap) = true →
        s.env.gpioOkFor (lazyTickGpioActions s.cfg) = true →
        s.env.releasesFor (lazyTickReleases s.cfg) = true →
        exec .opTick s = .next { s with
          err := channels.foldl (tickChannelErr s.cfg snap noFailures) ⟨0, 0⟩
          clr := if s.cfg.sensorConfigured then r else s.clr
          snap := snap
          seq := ⟨s.seq.phase, 15⟩
          mcs := .done
          calAttempted := true
          gpioSetting := if s.cfg.requiresHandshake then settingAfterCal s.cfg else s.gpioSetting
          gpioPower := if s.cfg.requiresHandshake then powerAfterCal s.cfg s.gpioPower else s.gpioPower
          tr := s.tr ++ (if s.cfg.sensorConfigured then [.sense r] else []) ++ [.semAcq, .semRel] ++
            channels.flatMap (lazyTickEvents s.cfg snap) ++ [.delay .tick]
          chip := { s.chip with regs := channels.foldl (lazyTickRegs s.cfg snap) s.chip.regs }
          env := { ((s.env.dropBus (lazyTickTransfers s.cfg snap)).dropGpio
              (lazyTickGpioActions s.cfg)).dropRelease (lazyTickReleases s.cfg) with
            sensor := if s.cfg.sensorConfigured then s.env.sensor.tail else s.env.sensor
            shm := s.env.shm.tail } }) ∧
      ∀ fails : TickFailures,
        let start := atMotorChannel s r snap fails
        let later := channels.drop s.cfg.motorCh.val
        tickAnswers s.cfg snap fails (channels.take s.cfg.motorCh.val) s.env = true →
          (∀ u, exec .opCal start = .next u → tickAnswers s.cfg snap fails later u.env = true →
            u.calAttempted = true ∧
            exec .opTick s = .next { u with
              err := later.foldl (tickChannelErr s.cfg snap fails)
                (if u.err.code = 0 then start.err else u.err)
              seq := ⟨s.seq.phase, 15⟩
              tr := u.tr ++ later.flatMap (tickChannelEvents s.cfg u.mcs snap fails) ++ [.delay .tick]
              chip := { u.chip with regs := later.foldl (tickChannelRegs s.cfg snap fails) u.chip.regs }
              env := u.env.dropBus (tickTransfersOf s.cfg snap fails later) }) ∧
          ∀ f, exec .opCal start = .fault f → exec .opTick s = .fault f

/-- 43_control_loop.md R233: a tick that sees TERM does nothing but SHUTDOWN. -/
def Obligations.TickWithTermShutsDown : Prop :=
  ∀ (s : State) (h : Handle), s.handle = some h → s.term = true →
    exec .opTick s = exec .opShutdown s

/-- 60_exceptions.md R278, 70_reset_and_hazards.md R333: whatever the bus, the lines, the sensor and the
snapshot answer, a tick without TERM ends with its sleep, in the phase it began in, with the handle open:
every error inside it is absorbed. That a SemRelease always returns is the model's choice (log 40). -/
def Obligations.TickEndsAndAbsorbsErrors : Prop :=
  ∀ (s : State) (h : Handle), s.cfg.wf = true → s.handle = some h → s.term = false →
    s.env.responsive = true →
      ∃ t, exec .opTick s = .next t ∧ t.tr.getLast? = some (.delay .tick) ∧
        t.seq.phase = s.seq.phase ∧ t.handle = s.handle ∧ t.runActive = s.runActive ∧
        (s.mcs = .done → t.mcs = .done)

/-! ### RUN and SHUTDOWN -/

/-- 43_control_loop.md R240, R245: SHUTDOWN resets the chip and closes the bus where a handle is open, a
failed reset being logged, the chip then being reset only if the byte had arrived (20_memory.md R62, log 11);
it releases the lines held, SETTING first, and ends the run with exit code 0. Where the release of a held line
never returns the machine is stuck (70_reset_and_hazards.md R333, log 7). That RUN in progress is a mark of the
state, cleared here, is log 14; that BusClose always returns, log 40. -/
def Obligations.ShutdownResetsAndExits : Prop :=
  ∀ (s : State) (n : Nat), s.cfg.wf = true →
    let halted := { s with
      handle := none, runActive := false, seq := ⟨.halted 0, s.seq.idx⟩
      gpioSetting := releasedLine s.gpioSetting, gpioPower := releasedLine s.gpioPower
      env := s.env.dropRelease (heldLines s) }
    (s.env.releasesFor (heldLines s) = true →
      (s.handle = none → exec .opShutdown s = .next { halted with
        err := ⟨0, 0⟩, tr := s.tr ++ releaseEvents s ++ [.exit 0] }) ∧
      (s.handle.isSome = true → s.env.busOkFor 1 = true → exec .opShutdown s = .next { halted with
        err := ⟨0, 0⟩
        tr := s.tr ++ [swrstEvent s.cfg true, .delay .settle, .busClose] ++ releaseEvents s ++ [.exit 0]
        chip := s.chip.softwareReset
        env := halted.env.dropBus 1 }) ∧
      (s.handle.isSome = true → s.env.busFailsAt 0 n = true → exec .opShutdown s = .next { halted with
        err := ⟨2, 0x0000⟩
        tr := s.tr ++ [swrstEvent s.cfg false, .log .resetFail 0, .busClose] ++ releaseEvents s ++ [.exit 0]
        chip := if 1 ≤ n then s.chip.softwareReset else s.chip
        env := halted.env.dropBus 1 })) ∧
    ∀ j, j < heldLines s → s.env.releaseHangsAt j = true →
      (s.handle = none ∨ s.env.busOkFor 1 = true ∨ s.env.busFailsAt 0 n = true) →
        exec .opShutdown s = .fault (.blocked .gpio)

/-- 43_control_loop.md R230, R231: RUN LOOP whose OPEN succeeds enters the loop with the chip configured:
with CAL_POLICY other than AT_STARTUP at once, with AT_STARTUP after one CAL, whose error it absorbs. That
the step of RUN ends there, in Running, with the mark of a RUN in progress set and each tick a step of its
own, is the model's choice (log 13, log 14). -/
def Obligations.RunLoopOpensThenRuns : Prop :=
  ∀ (s : State) (conn : Nat), s.cfg.wf = true → s.argMode = 0 → s.env.responsive = true →
    s.env.storage.head = true → s.env.busOpen.head = some conn → s.env.busOkFor 5 = true →
      ∃ u, exec .opOpen { s with runActive := true, seq := ⟨.init, s.seq.idx⟩ } = .next u ∧
        u.handle.isSome = true ∧
        (s.cfg.calPolicy ≠ .atStartup →
          exec .opRun s = .next { u with seq := ⟨.running, s.seq.idx⟩ }) ∧
        (s.cfg.calPolicy = .atStartup →
          ∃ v, exec .opCal u = .next v ∧
            exec .opRun s = .next { v with seq := ⟨.running, s.seq.idx⟩ })

/-- 43_control_loop.md R230, R240, R245, 60_exceptions.md R279: RUN CALIBRATE whose OPEN succeeds is that
OPEN, then CAL, whose error stands in ERR and is absorbed, then SHUTDOWN, and ends in Halted(0) with the
handle gone, whether or not CAL reached Done. Where SHUTDOWN's reset answers `ok` ERR is still CAL's; where it
fails that is logged, ERR is ResetError and the exit code is 0 all the same. That RUN in progress is a mark
of the state is log 14; the bytes of a failed transfer, log 11. -/
def Obligations.RunCalibrateEndsInExitZero : Prop :=
  ∀ (s : State) (conn : Nat), s.cfg.wf = true → s.argMode = 1 → s.env.responsive = true →
    s.env.storage.head = true → s.env.busOpen.head = some conn → s.env.busOkFor 5 = true →
      ∃ u v, exec .opOpen { s with runActive := true, seq := ⟨.init, s.seq.idx⟩ } = .next u ∧
        u.handle.isSome = true ∧ exec .opCal u = .next v ∧
        v.calAttempted = (s.calAttempted || decide (s.mcs ≠ .done)) ∧
        let halted := { v with
          handle := none, runActive := false, seq := ⟨.halted 0, s.seq.idx⟩
          gpioSetting := releasedLine v.gpioSetting, gpioPower := releasedLine v.gpioPower
          env := (v.env.dropBus 1).dropRelease (heldLines v) }
        (v.env.bus.head = .got .ok → exec .opRun s = .next { halted with
          tr := v.tr ++ [swrstEvent s.cfg true, .delay .settle, .busClose] ++ releaseEvents v ++ [.exit 0]
          chip := v.chip.softwareReset }) ∧
        ∀ n, v.env.bus.head = .got (.fail n) → exec .opRun s = .next { halted with
          err := ⟨2, 0x0000⟩
          tr := v.tr ++ [swrstEvent s.cfg false, .log .resetFail 0, .busClose] ++ releaseEvents v ++
            [.exit 0]
          chip := if 1 ≤ n then v.chip.softwareReset else v.chip }

/-- 60_exceptions.md R277, 43_control_loop.md R244: an error of RUN's OPEN is fatal in both modes: after what
OPEN did, one LOG(FATAL) with the error's code and EXIT(1), and no tick. -/
def Obligations.RunOpenErrorIsFatal : Prop :=
  ∀ (s u : State), (s.argMode = 0 ∨ s.argMode = 1) →
    exec .opOpen { s with runActive := true, seq := ⟨.init, s.seq.idx⟩ } = .next u →
    u.err.code ≠ 0 →
      exec .opRun s = .next { u with
        runActive := false
        seq := ⟨.halted 1, s.seq.idx⟩
        tr := u.tr ++ [.log .fatal (u.err.code.setWidth 16), .exit 1] } ∧
      u.handle = none

/-! ### Rules of the whole machine -/

/-- The invariant holds after reset. -/
def Obligations.InvariantHoldsAtReset : Prop := Inv State.reset

/-- Every step from a state that has the invariant leads to one that has it: the chip's memory in canonical
form, a line not held unknown (10_state.md R30), MCS at Done or NotStarted (42_motor_calibration.md R200),
the phase one of those a step may end in (60_exceptions.md R284), the handle open exactly where the rules
say (40_register_protocol.md R150), the lock never held across another action (20_memory.md R75). -/
def Obligations.EveryStepKeepsTheInvariant : Prop :=
  ∀ s t : State, Inv s → step s = .next t → Inv t

/-- 10_state.md R21, R28, R31, 60_exceptions.md R282: no instruction writes CFG, TERM, CMD, an ARG register
or the inputs to come, and TR only grows. -/
def Obligations.InstructionsKeepConfigTermAndArgs : Prop :=
  ∀ (i : Instr) (s t : State), exec i s = .next t →
    t.cfg = s.cfg ∧ t.term = s.term ∧ t.cmd = s.cmd ∧ t.argCh = s.argCh ∧ t.argDuty = s.argDuty ∧
      t.argFrac = s.argFrac ∧ t.argFreq = s.argFreq ∧ t.argMode = s.argMode ∧ t.inbox = s.inbox ∧
      ∃ events, t.tr = s.tr ++ events

/-- 10_state.md R26, R30, 40_register_protocol.md R140(e): an instruction other than CAL, TICK and RUN
writes neither MCS nor CAL_ATTEMPTED, SNAP or CLR, and one that is not SHUTDOWN either writes no GPIO
line. -/
def Obligations.OnlyTheLoopTouchesCalibration : Prop :=
  ∀ (i : Instr) (s t : State), exec i s = .next t → i ≠ .opCal → i ≠ .opTick → i ≠ .opRun →
    t.mcs = s.mcs ∧ t.calAttempted = s.calAttempted ∧ t.snap = s.snap ∧ t.clr = s.clr ∧
      (i ≠ .opShutdown → t.gpioSetting = s.gpioSetting ∧ t.gpioPower = s.gpioPower)

/-- 40_register_protocol.md R150, 10_state.md R27: HANDLE changes only in OPEN, SHUTDOWN, RUN and a tick that
sees TERM, and SEQ.phase only in SHUTDOWN, RUN and such a tick. -/
def Obligations.OnlyRunAndShutdownChangePhase : Prop :=
  ∀ (i : Instr) (s t : State), exec i s = .next t → i ≠ .opShutdown → i ≠ .opRun →
    (i = .opTick → s.term = false) →
      t.seq.phase = s.seq.phase ∧ t.runActive = s.runActive ∧ (i ≠ .opOpen → t.handle = s.handle)

/-- 10_state.md R21, 30_encoding.md R109: RES_DUTY is written only by MAP, RES_PRESC only by PRESC, RES_SNAP
only by RDALL, and by none of them when ERR shows an error after it. -/
def Obligations.ResultsAreWrittenByTheirOperation : Prop :=
  ∀ (i : Instr) (s t : State), exec i s = .next t →
    ((i ≠ .opMap ∨ t.err.code ≠ 0) → t.resDuty = s.resDuty ∧ t.resDutyWritten = s.resDutyWritten) ∧
    ((i ≠ .opPresc ∨ t.err.code ≠ 0) →
      t.resPresc = s.resPresc ∧ t.resPrescWritten = s.resPrescWritten) ∧
    ((i ≠ .opRdall ∨ t.err.code ≠ 0) → t.resSnap = s.resSnap ∧ t.resSnapWritten = s.resSnapWritten)

/-- 43_control_loop.md R234, 00_scope.md R8: below(r, T) is the IEEE 754 less-than of two `f64` words, for
every pair of words: false where either is a NaN (a NaN threshold is ill formed), false for equal words, the
order of the values for finite words, minus infinity below every other number and plus infinity below
nothing, as reading and as threshold. The binary64 format is log 25 (PRESUMED). -/
def Obligations.BelowIsTheIeeeLessThan : Prop :=
  ∀ r t : F64,
    (f64Value r = .nan ∨ f64Value t = .nan → below r t = false) ∧
    below r r = false ∧
    (∀ x y, f64Value r = .finite x → f64Value t = .finite y → (below r t = true ↔ x < y)) ∧
    (∀ x, f64Value r = .finite x → f64Value t = .infinite false → below r t = true) ∧
    (∀ x, f64Value r = .infinite true → f64Value t = .finite x → below r t = true) ∧
    (f64Value r = .infinite true → f64Value t = .infinite false → below r t = true) ∧
    (f64Value t = .infinite true → below r t = false) ∧
    (f64Value r = .infinite false → below r t = false)

/-- 41_duty_mapper.md R181: what every `f32` and every `f64` word denotes: a NaN or an infinity where the
exponent field is all ones, otherwise (-1)^s times the fraction field at the smallest exponent, or times the
fraction field with its leading one, scaled as the rule says; and the three words it names. `f32Value` counts
in units of 2^(-149), `f64Value` in units of 2^(-1074). The formats are from general knowledge (log 25,
PRESUMED). -/
def Obligations.FloatWordsDenoteTheirValue : Prop :=
  (∀ w : F32,
    let e := (w.extractLsb' 23 8).toNat
    let m := (w.extractLsb' 0 23).toNat
    let sign : ℚ := if w.getLsbD 31 then -1 else 1
    (e = 255 → m ≠ 0 → f32Value w = .nan) ∧
    (e = 255 → m = 0 → f32Value w = .infinite (w.getLsbD 31)) ∧
    (e ≠ 255 → ∃ x : Int, f32Value w = .finite x ∧
      (x : ℚ) * 2 ^ (-149 : ℤ) =
        if e = 0 then sign * m * 2 ^ (-149 : ℤ) else sign * (2 ^ 23 + m) * 2 ^ ((e : ℤ) - 150))) ∧
  (∀ w : F64,
    let e := (w.extractLsb' 52 11).toNat
    let m := (w.extractLsb' 0 52).toNat
    let sign : ℚ := if w.getLsbD 63 then -1 else 1
    (e = 2047 → m ≠ 0 → f64Value w = .nan) ∧
    (e = 2047 → m = 0 → f64Value w = .infinite (w.getLsbD 63)) ∧
    (e ≠ 2047 → ∃ x : Int, f64Value w = .finite x ∧
      (x : ℚ) * 2 ^ (-1074 : ℤ) =
        if e = 0 then sign * m * 2 ^ (-1074 : ℤ) else sign * (2 ^ 52 + m) * 2 ^ ((e : ℤ) - 1075))) ∧
  f32Value 0x00000000#32 = .finite 0 ∧ f32Value 0x3F000000#32 = .finite (2 ^ 148) ∧
  f32Value 0x3F800000#32 = .finite (2 ^ 149)
end

