-- ==== Sys2Proof/Laws/Config.lean ====
section
/-! SUPPORT. What a well-formed configuration gives (00_scope.md R8, R9), and the address of an edge
register under one (20_memory.md R67). -/
namespace Sys2Proof.Machine

section wf
variable {cfg : Config}

theorem wf_all (h : cfg.wf = true) {p : ConfigError × Bool} (hp : p ∈ cfg.checks) : p.2 = true :=
  List.all_eq_true.1 h p hp

/-- DEV_ADDR differs from SWRST_ADDR. -/
theorem wf_addresses (h : cfg.wf = true) : cfg.devAddr ≠ cfg.swrstAddr := by
  have := wf_all h (p := (.sameAddresses, _)) (by simp [Config.checks]; rfl)
  simpa using this

/-- 0x06 ≤ CH_BASE ≤ 0xBE. -/
theorem wf_chBase (h : cfg.wf = true) : 6 ≤ cfg.chBase.toNat ∧ cfg.chBase.toNat ≤ 190 := by
  have := wf_all h (p := (.channelBase, _)) (by simp [Config.checks]; rfl)
  simpa using this

/-- EDGE_OFFSET is a bijection. -/
theorem wf_edgeOffsets (h : cfg.wf = true) (x y : Edge)
    (hxy : edgeOffsetOf cfg.edgeOffset x = edgeOffsetOf cfg.edgeOffset y) : x = y := by
  have := wf_all h (p := (.edgeOffsets, _)) (by simp [Config.checks]; rfl)
  simp only [Bool.and_eq_true, bne_iff_ne, ne_eq] at this
  cases x <;> cases y <;> simp_all [edgeOffsetOf]

/-- M1_SLEEP_MASK is not 0. -/
theorem wf_sleepMask (h : cfg.wf = true) : cfg.m1SleepMask ≠ 0#8 := by
  have := wf_all h (p := (.sleepMask, _)) (by simp [Config.checks]; rfl)
  intro h0
  rw [h0] at this
  revert this
  decide

/-- M1_WAKE has the sleep bit clear. -/
theorem wf_wake (h : cfg.wf = true) : cfg.m1Wake &&& cfg.m1SleepMask = 0#8 := by
  have := wf_all h (p := (.wakeByte, _)) (by simp [Config.checks]; rfl)
  simpa using this

/-- M1_RUN is M1_WAKE or M1_RESTART_MASK or M1_AAR_MASK. -/
theorem wf_run (h : cfg.wf = true) :
    cfg.m1Run = cfg.m1Wake ||| cfg.m1RestartMask ||| cfg.m1AarMask := by
  have := wf_all h (p := (.runByte, _)) (by simp [Config.checks]; rfl)
  simpa using this

/-- PRESC(FREQ_HZ) lies in 0 to 255. -/
theorem wf_frequency (h : cfg.wf = true) : ∃ p, prescaleOf cfg.freqHz = some p := by
  have := wf_all h (p := (.frequency, _)) (by simp [Config.checks]; rfl)
  exact Option.isSome_iff_exists.1 this

/-- min_count < max_count in every entry of CAL. -/
theorem wf_cal (h : cfg.wf = true) (c : Channel) :
    (cfg.cal.get c).minCount.toNat < (cfg.cal.get c).maxCount.toNat := by
  have hm : cfg.checks[10]? = some (.calTable,
      cfg.cal.toList.all fun e => decide (e.minCount.toNat < e.maxCount.toNat)) := rfl
  have := wf_all h (List.mem_of_getElem? hm)
  have hc := List.all_eq_true.1 this (cfg.cal.get c)
    (Vector.mem_toList_iff.2 (by simp [Vector.get]))
  exact of_decide_eq_true hc

end wf

/-- Under a well-formed configuration the address never wraps (20_memory.md R67). -/
theorem edgeAddr_toNat {cfg : Config} (h : cfg.wf = true) (c : Channel) (x : Edge) :
    (edgeAddr cfg c x).toNat =
      cfg.chBase.toNat + 4 * c.val + (edgeOffsetOf cfg.edgeOffset x).toNat := by
  have hb := wf_chBase h
  have ho := (edgeOffsetOf cfg.edgeOffset x).isLt
  have hc := c.isLt
  simp only [edgeAddr, BitVec.toNat_ofNat]
  omega

/-- The address of an edge register lies between 0x05 and 0xFE exclusive (00_scope.md R8). -/
theorem edgeAddr_range {cfg : Config} (h : cfg.wf = true) (c : Channel) (x : Edge) :
    6 ≤ (edgeAddr cfg c x).toNat ∧ (edgeAddr cfg c x).toNat ≤ 253 := by
  have hb := wf_chBase h
  have ho := (edgeOffsetOf cfg.edgeOffset x).isLt
  have hc := c.isLt
  rw [edgeAddr_toNat h]
  omega

theorem edgeAddr_ne_prescale {cfg : Config} (h : cfg.wf = true) (c : Channel) (x : Edge) :
    edgeAddr cfg c x ≠ regPrescale := by
  intro he
  have := edgeAddr_range h c x
  rw [he] at this
  simp at this

theorem edgeAddr_ne_mode1 {cfg : Config} (h : cfg.wf = true) (c : Channel) (x : Edge) :
    edgeAddr cfg c x ≠ regMode1 := by
  intro he
  have := edgeAddr_range h c x
  rw [he] at this
  simp at this

/-- Two edge registers share an address only if they are one (30_encoding.md R107). -/
theorem edgeAddr_injective {cfg : Config} (h : cfg.wf = true) {c c' : Channel} {x x' : Edge}
    (he : edgeAddr cfg c x = edgeAddr cfg c' x') : c = c' ∧ x = x' := by
  have h1 := edgeAddr_toNat h c x
  have h2 := edgeAddr_toNat h c' x'
  rw [he, h2] at h1
  have ho := (edgeOffsetOf cfg.edgeOffset x).isLt
  have ho' := (edgeOffsetOf cfg.edgeOffset x').isLt
  refine ⟨Fin.ext (by omega), wf_edgeOffsets h x x' (BitVec.eq_of_toNat_eq (by omega))⟩

end Sys2Proof.Machine
end

