-- ==== Sys2Proof/Laws/Memory.lean ====
section
/-! SUPPORT. The chip's register memory: a read after a write, and every operation keeps the canonical
form. -/
namespace Sys2Proof.Machine

@[simp] theorem Memory.read_nil (a : Nat) : Memory.read [] a = none := rfl

@[simp] theorem Memory.wf_nil : Memory.wf [] = true := rfl

@[simp] theorem Memory.wf_cons_cons (c d : Host.Cell) (rest : Memory) :
    Memory.wf (c :: d :: rest) = true ↔ c.1 < d.1 ∧ Memory.wf (d :: rest) = true := by
  simp [Memory.wf]

/-- A read after a write to the same address gives the byte written. -/
@[simp] theorem Memory.read_write_same (m : Memory) (a : Nat) (v : Byte) :
    (m.write a v).read a = some v := by
  induction m with
  | nil => simp [Memory.write, Memory.read]
  | cons c rest ih =>
    simp only [Memory.write]
    split
    · simp [Memory.read]
    · split
      · simp [Memory.read]
      · rename_i h1 h2
        simp [Memory.read, Ne.symm h2, ih]

/-- A write leaves every other address alone. -/
theorem Memory.read_write_other (m : Memory) (a b : Nat) (v : Byte) (h : b ≠ a) :
    (m.write a v).read b = m.read b := by
  induction m with
  | nil => simp [Memory.write, Memory.read, Ne.symm h]
  | cons c rest ih =>
    simp only [Memory.write]
    split
    · simp [Memory.read, Ne.symm h]
    · split
      · rename_i h1 h2
        simp [Memory.read, Ne.symm h, ← h2]
      · simp only [Memory.read, ih]

/-- What a write at an address leaves at any address. -/
theorem Memory.read_write (m : Memory) (a b : Nat) (v : Byte) :
    (m.write a v).read b = if b = a then some v else m.read b := by
  split
  · subst_vars; simp
  · exact Memory.read_write_other m a b v ‹_›

/-- The first address of a written memory. -/
theorem Memory.write_head (m : Memory) (a : Nat) (v : Byte) :
    ∃ c rest, m.write a v = c :: rest ∧ (c.1 = a ∨ ∃ d tl, m = d :: tl ∧ c.1 = d.1 ∧ d.1 < a) := by
  cases m with
  | nil => exact ⟨(a, v), [], rfl, .inl rfl⟩
  | cons c rest =>
    simp only [Memory.write]
    split
    · exact ⟨_, _, rfl, .inl rfl⟩
    · split
      · exact ⟨_, _, rfl, .inl rfl⟩
      · exact ⟨_, _, rfl, .inr ⟨c, rest, rfl, rfl, by omega⟩⟩

/-- A write of a register of the chip keeps the canonical form. -/
theorem Memory.wf_write (m : Memory) (a : Nat) (v : Byte) (h : m.wf = true) (ha : a < 256) :
    (m.write a v).wf = true := by
  induction m with
  | nil => simp [Memory.write, Memory.wf, ha]
  | cons c rest ih =>
    have hrest : Memory.wf rest = true := by
      cases rest with
      | nil => rfl
      | cons d tl => exact ((Memory.wf_cons_cons c d tl).1 h).2
    simp only [Memory.write]
    split
    · rename_i h1
      exact (Memory.wf_cons_cons _ _ _).2 ⟨h1, h⟩
    · split
      · rename_i h1 h2
        cases rest with
        | nil => simp [Memory.wf, ha]
        | cons d tl =>
          exact (Memory.wf_cons_cons _ _ _).2
            ⟨by have := ((Memory.wf_cons_cons c d tl).1 h).1; simp_all, hrest⟩
      · rename_i h1 h2
        obtain ⟨e, tl, he, hcase⟩ := Memory.write_head rest a v
        rw [he]
        refine (Memory.wf_cons_cons _ _ _).2 ⟨?_, he ▸ ih hrest⟩
        rcases hcase with heq | ⟨d, tl', hm, heq, _⟩
        · omega
        · subst hm
          have := ((Memory.wf_cons_cons c d tl').1 h).1
          omega

end Sys2Proof.Machine
end

