-- ==== Sys2Proof/Laws/Chip.lean ====
section
/-! SUPPORT. What a transfer does to the chip, once for each kind; every operation keeps the chip's form
and what is known of its low-power state. -/
namespace Sys2Proof.Machine

variable {cfg : Config} {chip chip' : Chip}

/-- SWRST leaves the chip in low-power mode (20_memory.md R71(a)). -/
@[simp] theorem lowPower_softwareReset : chip.softwareReset.lowPower cfg = some true := rfl

/-- SWRST leaves the chip in form. -/
@[simp] theorem wf_softwareReset : chip.softwareReset.wf = true := rfl

@[simp] theorem softwareReset_regs : chip.softwareReset.regs = [] := rfl
@[simp] theorem softwareReset_resetMode1 : chip.softwareReset.resetMode1 = true := rfl
@[simp] theorem softwareReset_resets : chip.softwareReset.resets = chip.resets + 1 := rfl

@[simp] theorem withReg_regs (r v : Byte) : (chip.withReg r v).regs = chip.regs.write r.toNat v := rfl
@[simp] theorem withReg_resetMode1 (r v : Byte) :
    (chip.withReg r v).resetMode1 = if r = regMode1 then false else chip.resetMode1 := rfl
@[simp] theorem withReg_resets (r v : Byte) : (chip.withReg r v).resets = chip.resets := rfl

/-- A write of a register other than MODE1 changes the register memory alone. -/
theorem withReg_other {r : Byte} (h : r ≠ regMode1) (v : Byte) :
    chip.withReg r v = { chip with regs := chip.regs.write r.toNat v } := by
  simp [Chip.withReg, h]

/-- A write of a register other than PRESCALE: the byte stands in the register (20_memory.md R64). -/
theorem store_register {r v : Byte} (h : r ≠ regPrescale) :
    chip.store cfg r v = some (chip.withReg r v) := by
  simp [Chip.store, h]

/-- A write of PRESCALE in low-power mode (20_memory.md R64, R71(c)). -/
theorem store_prescale {v : Byte} (h : chip.lowPower cfg = some true) :
    chip.store cfg regPrescale v = some (chip.withReg regPrescale v) := by
  simp [Chip.store, h]

/-- What a completed register write is: never of PRESCALE while the chip is awake. -/
theorem store_eq_some {r v : Byte} (h : chip.store cfg r v = some chip') :
    (r = regPrescale → chip.lowPower cfg = some true) ∧ chip' = chip.withReg r v := by
  unfold Chip.store at h
  split at h
  · cases h
  · rename_i hn
    refine ⟨fun hr => by_contra fun hl => hn ⟨hr, hl⟩, ?_⟩
    simpa using h.symm

/-- What a transfer that the chip took did: nothing, a reset, or a register write. -/
theorem receive_cases {a : BusAddr} {bytes : List Byte} (h : chip.receive cfg a bytes = some chip') :
    chip' = chip ∨ chip' = chip.softwareReset ∨
      ∃ r v, a = cfg.devAddr ∧ bytes = [r, v] ∧ chip.store cfg r v = some chip' := by
  unfold Chip.receive at h
  split at h
  · exact .inr (.inl (by simpa using h.symm))
  · split at h
    · rename_i ha
      split at h
      · exact .inr (.inr ⟨_, _, ha, rfl, h⟩)
      · exact .inl (by simpa using h.symm)
    · exact .inl (by simpa using h.symm)

/-- The reset broadcast (20_memory.md R66). -/
@[simp] theorem receive_swrst : chip.receive cfg cfg.swrstAddr [cfg.swrstByte] = some chip.softwareReset := by
  simp [Chip.receive]

/-- A register write that arrived whole (20_memory.md R64). -/
theorem receive_write (h : cfg.wf = true) (r v : Byte) :
    chip.receive cfg cfg.devAddr [r, v] = chip.store cfg r v := by
  simp [Chip.receive, wf_addresses h]

/-- An address-set phase, or a write of which one byte or none arrived, changes nothing (20_memory.md
R62, R65). -/
theorem receive_short (h : cfg.wf = true) {bytes : List Byte} (hb : bytes.length ≤ 1) :
    chip.receive cfg cfg.devAddr bytes = some chip := by
  match bytes, hb with
  | [], _ => simp [Chip.receive, wf_addresses h]
  | [b], _ => simp [Chip.receive, wf_addresses h]
  | _ :: _ :: _, hb => simp at hb

/-- A reset broadcast of which nothing arrived changes nothing (20_memory.md R62). -/
theorem receive_swrst_nil : chip.receive cfg cfg.swrstAddr [] = some chip := by
  unfold Chip.receive
  split
  · rename_i h; simp at h
  · split <;> rfl

/-- A register write keeps the chip's form. -/
theorem store_wf {r v : Byte} (hw : chip.wf = true) (h : chip.store cfg r v = some chip') :
    chip'.wf = true := by
  obtain ⟨-, rfl⟩ := store_eq_some h
  simp only [Chip.wf, Bool.and_eq_true, Bool.or_eq_true, withReg_regs, withReg_resetMode1] at hw ⊢
  refine ⟨Memory.wf_write _ _ _ hw.1 (by simpa using r.isLt), ?_⟩
  split
  · left; rfl
  · rename_i hr
    have h0 : (0 : Nat) ≠ r.toNat := fun h0 => hr (BitVec.eq_of_toNat_eq (by simp [← h0]))
    rw [Memory.read_write_other _ _ _ _ h0]
    exact hw.2

/-- A register write keeps the low-power state known. -/
theorem store_lowPower {r v : Byte} (hw : (chip.lowPower cfg).isSome = true)
    (h : chip.store cfg r v = some chip') : (chip'.lowPower cfg).isSome = true := by
  obtain ⟨-, rfl⟩ := store_eq_some h
  by_cases hr : r = regMode1
  · subst hr; simp [Chip.lowPower]
  · have h0 : (0 : Nat) ≠ r.toNat := fun h0 => hr (BitVec.eq_of_toNat_eq (by simp [← h0]))
    simp only [Chip.lowPower, withReg_regs, withReg_resetMode1, hr, if_false,
      Memory.read_write_other _ _ _ _ h0] at hw ⊢
    exact hw

/-- A transfer keeps the chip's form. -/
theorem receive_wf {a : BusAddr} {bytes : List Byte} (hw : chip.wf = true)
    (h : chip.receive cfg a bytes = some chip') : chip'.wf = true := by
  rcases receive_cases h with rfl | rfl | ⟨r, v, -, -, hs⟩
  · exact hw
  · rfl
  · exact store_wf hw hs

/-- A transfer keeps the low-power state known. -/
theorem receive_lowPower {a : BusAddr} {bytes : List Byte} (hw : (chip.lowPower cfg).isSome = true)
    (h : chip.receive cfg a bytes = some chip') : (chip'.lowPower cfg).isSome = true := by
  rcases receive_cases h with rfl | rfl | ⟨r, v, -, -, hs⟩
  · exact hw
  · rfl
  · exact store_lowPower hw hs

/-- A register that holds a byte reads as it (20_memory.md R65, R72). -/
theorem load_written {r b : Byte} (h : chip.regs.read r.toNat = some b) : chip.load cfg r = b := by
  simp [Chip.load, h]

/-- MODE1 as SWRST left it reads with the sleep bit set (20_memory.md R72). -/
theorem load_mode1_after_reset (hr : chip.regs.read 0 = none) (hn : chip.resetMode1 = true) :
    chip.load cfg regMode1 = resetMode1Byte cfg chip.resets := by
  simp [Chip.load, hr, hn]

/-- A register nothing has written reads as the draw of the last reset, except MODE1 as SWRST left it
(93_implementation_defined.md U5). -/
theorem load_unwritten {r : Byte} (hr : chip.regs.read r.toNat = none)
    (hm : r ≠ regMode1 ∨ chip.resetMode1 = false) : chip.load cfg r = Config.chipDraw chip.resets r := by
  rcases hm with hm | hm <;> simp [Chip.load, hr, hm]

/-- A register write leaves what every other register reads as alone, drawn or written (20_memory.md R70). -/
theorem load_withReg (r r' v : Byte) :
    (chip.withReg r v).load cfg r' = if r' = r then v else chip.load cfg r' := by
  by_cases h : r' = r
  · subst h; simp [Chip.load]
  · have hne : r'.toNat ≠ r.toNat := fun hn => h (BitVec.eq_of_toNat_eq hn)
    have hm : (r' = regMode1 ∧ (chip.withReg r v).resetMode1 = true) ↔
        (r' = regMode1 ∧ chip.resetMode1 = true) := by
      refine and_congr_right fun hr' => ?_
      have : r ≠ regMode1 := fun hr => h (hr'.trans hr.symm)
      simp [this]
    simp only [Chip.load, withReg_regs, Memory.read_write_other _ _ _ _ hne, h, if_false, hm,
      withReg_resets]

/-- The draw of MODE1 has the sleep bit set (20_memory.md R72). -/
theorem resetMode1Byte_low_power (h : cfg.wf = true) (k : Nat) :
    lowPowerBit cfg (resetMode1Byte cfg k) = true := by
  have hm := wf_sleepMask h
  have habs : (Config.chipDraw k regMode1 ||| cfg.m1SleepMask) &&& cfg.m1SleepMask = cfg.m1SleepMask := by
    ext i hi; simp; tauto
  simp [lowPowerBit, resetMode1Byte, habs, hm]

end Sys2Proof.Machine
end

