-- ==== Sys2Proof/Laws/Decode.lean ====
section
/-! SUPPORT. The decoder over the register map: what each address names, and which instruction the WR and
RD row of a channel's edge register is. -/
namespace Sys2Proof.Machine

/-- Each edge register is found at its own offset (30_encoding.md R107). -/
theorem edgeAtOffset_self {cfg : Config} (h : cfg.wf = true) (x : Edge) :
    edgeAtOffset cfg.edgeOffset (edgeOffsetOf cfg.edgeOffset x) = some x := by
  have hn : ∀ y, y ≠ x → edgeOffsetOf cfg.edgeOffset y ≠ edgeOffsetOf cfg.edgeOffset x :=
    fun y hy he => hy (wf_edgeOffsets h y x he)
  cases x with
  | onL => simp [edgeAtOffset, edgeOffsetOf]
  | onH =>
    have h1 := hn .onL (by decide)
    simp only [edgeOffsetOf] at h1
    simp [edgeAtOffset, edgeOffsetOf, h1]
  | offL =>
    have h1 := hn .onL (by decide)
    have h2 := hn .onH (by decide)
    simp only [edgeOffsetOf] at h1 h2
    simp [edgeAtOffset, edgeOffsetOf, h1, h2]
  | offH =>
    have h1 := hn .onL (by decide)
    have h2 := hn .onH (by decide)
    have h3 := hn .offL (by decide)
    simp only [edgeOffsetOf] at h1 h2 h3
    simp [edgeAtOffset, edgeOffsetOf, h1, h2, h3]

/-- The address of an edge register names it (30_encoding.md R105, R107). -/
theorem decodeReg_edgeAddr {cfg : Config} (h : cfg.wf = true) (c : Channel) (x : Edge) :
    decodeReg cfg (edgeAddr cfg c x) = .edge c x := by
  have hr := edgeAddr_range h c x
  have ha := edgeAddr_toNat h c x
  have hb := wf_chBase h
  have ho := (edgeOffsetOf cfg.edgeOffset x).isLt
  have hc := c.isLt
  have hne : ∀ n : Nat, n < 6 → edgeAddr cfg c x ≠ BitVec.ofNat 8 n := by
    intro n hn he
    rw [he] at hr
    simp only [BitVec.toNat_ofNat] at hr
    omega
  have hk : (edgeAddr cfg c x).toNat - cfg.chBase.toNat = 4 * c.val + (edgeOffsetOf cfg.edgeOffset x).toNat := by
    omega
  have hin : cfg.chBase.toNat ≤ (edgeAddr cfg c x).toNat ∧
      (edgeAddr cfg c x).toNat ≤ cfg.chBase.toNat + 63 := by omega
  have hmod : BitVec.ofNat 2 ((4 * c.val + (edgeOffsetOf cfg.edgeOffset x).toNat) % 4) =
      edgeOffsetOf cfg.edgeOffset x := by
    apply BitVec.eq_of_toNat_eq
    simp only [BitVec.toNat_ofNat]
    omega
  have hdiv : (Fin.ofNat 16 ((4 * c.val + (edgeOffsetOf cfg.edgeOffset x).toNat) / 4) : Channel) = c := by
    apply Fin.ext
    simp only [Fin.val_ofNat]
    omega
  unfold decodeReg
  rw [if_neg (hne 0 (by omega)), if_neg (hne 1 (by omega)), if_neg (hne 2 (by omega)),
    if_neg (hne 3 (by omega)), if_neg (hne 4 (by omega)), if_neg (hne 5 (by omega)), if_pos hin, hk]
  simp only [hmod, edgeAtOffset_self h, hdiv]

/-- 0xFE names PRESCALE, whatever the channel base (30_encoding.md R107, 00_scope.md R8). -/
theorem decodeReg_prescale {cfg : Config} (h : cfg.wf = true) : decodeReg cfg regPrescale = .prescale := by
  have hb := wf_chBase h
  have hp : regPrescale.toNat = 254 := rfl
  unfold decodeReg
  rw [if_neg (by decide), if_neg (by decide), if_neg (by decide), if_neg (by decide), if_neg (by decide),
    if_neg (by decide), if_neg (by omega), if_pos rfl]

/-- The reset broadcast decodes to SWRST (30_encoding.md R107). -/
theorem decodeFrame_swrst (cfg : Config) : decodeFrame cfg cfg.swrstAddr [cfg.swrstByte] = .ok .swrst := by
  simp [decodeFrame]

/-- A frame of two bytes to the chip is a register write (30_encoding.md R107). -/
theorem decodeFrame_write {cfg : Config} (h : cfg.wf = true) (r v : Byte) :
    decodeFrame cfg cfg.devAddr [r, v] = decodeWrite cfg r v := by
  simp [decodeFrame, wf_addresses h]

/-- A frame of one byte to the chip is the address-set phase of a read (30_encoding.md R107). -/
theorem decodeFrame_read {cfg : Config} (h : cfg.wf = true) (r : Byte) :
    decodeFrame cfg cfg.devAddr [r] = decodeRead cfg r := by
  simp [decodeFrame, wf_addresses h]

/-- The write of an edge register decodes to that register's WR row (30_encoding.md R104, R106). -/
theorem decodeWrite_edge {cfg : Config} (h : cfg.wf = true) (c : Channel) (x : Edge) (v : Byte) :
    decodeWrite cfg (edgeAddr cfg c x) v = wrEdge c x v := by
  simp [decodeWrite, decodeReg_edgeAddr h]

/-- The read of an edge register decodes to that register's RD row (30_encoding.md R106). -/
theorem decodeRead_edge {cfg : Config} (h : cfg.wf = true) (c : Channel) (x : Edge) :
    decodeRead cfg (edgeAddr cfg c x) = .ok (rdEdge c x) := by
  simp [decodeRead, decodeReg_edgeAddr h]

/-- The data byte of OFF_H carries its four bits and nothing else (30_encoding.md R104). -/
@[simp] theorem offHighByte_low (hi : BitVec 4) : (offHighByte hi).extractLsb' 0 4 = hi := by
  revert hi; decide

@[simp] theorem offHighByte_high (hi : BitVec 4) : (offHighByte hi).extractLsb' 4 4 = 0#4 := by
  revert hi; decide

end Sys2Proof.Machine
end

