-- ==== Sys2Proof/Laws/Res.lean ====
section
/-! SUPPORT. Sequencing: what `andThen`, `runSteps`, `absorb` and `outcome` do, and how a property of every
step becomes a property of an operation. -/
namespace Sys2Proof.Machine

@[simp] theorem andThen_done {α β : Type} (a : α) (s : State) (f : α → State → Res β) :
    (Res.done a s).andThen f = f a s := rfl
@[simp] theorem andThen_raised {α β : Type} (e : Raise) (s : State) (f : α → State → Res β) :
    (Res.raised e s : Res α).andThen f = .raised e s := rfl
@[simp] theorem andThen_stopped {α β : Type} (x : Fault) (f : α → State → Res β) :
    (Res.stopped x : Res α).andThen f = .stopped x := rfl
@[simp] theorem absorb_done (u : Unit) (s : State) (p : Raise → State → State) :
    (Res.done u s).absorb p = .done () s := rfl
@[simp] theorem absorb_raised (e : Raise) (s : State) (p : Raise → State → State) :
    (Res.raised e s).absorb p = .done () (p e s) := rfl
@[simp] theorem absorb_stopped (x : Fault) (p : Raise → State → State) :
    (Res.stopped x).absorb p = .stopped x := rfl
@[simp] theorem outcome_done (u : Unit) (s : State) : (Res.done u s).outcome = .next s := rfl
@[simp] theorem outcome_raised (e : Raise) (s : State) : (Res.raised e s).outcome = .next s := rfl
@[simp] theorem outcome_stopped (x : Fault) : (Res.stopped x).outcome = .fault x := rfl
@[simp] theorem raiseErr_eq {α : Type} (k : ErrKind) (n : BitVec 16) (s : State) :
    (raiseErr k n s : Res α) = .raised ⟨k, n⟩ (setErr k n s) := rfl
@[simp] theorem refuseNoHandle_eq {α : Type} (s : State) :
    (refuseNoHandle s : Res α) =
      .raised ⟨.busTransfer, infoWord 0x03 0x00⟩ (setErr .busTransfer (infoWord 0x03 0x00) s) := rfl
@[simp] theorem refuseReserved_eq {α : Type} (s : State) :
    (refuseReserved s : Res α) =
      .raised ⟨.outOfRange, infoWord 0xFF 0xFF⟩ (setErr .outOfRange (infoWord 0xFF 0xFF) s) := rfl
@[simp] theorem runSteps_nil (s : State) : runSteps [] s = .done () s := rfl
@[simp] theorem runSteps_cons (a : Act) (rest : List Act) (s : State) :
    runSteps (a :: rest) s = (a s).andThen fun _ s' => runSteps rest s' := rfl
@[simp] theorem delay_eq (w : Wait) (s : State) : delay w s = .done () (emit (.delay w) s) := rfl
@[simp] theorem setMcs_eq (m : Mcs) (s : State) : setMcs m s = .done () { s with mcs := m } := rfl

/-- `andThen` is associative. -/
theorem andThen_assoc {α β γ : Type} (r : Res α) (f : α → State → Res β) (g : β → State → Res γ) :
    (r.andThen f).andThen g = r.andThen fun a s => (f a s).andThen g := by
  cases r <;> rfl

/-- Two lists of steps, one after the other. -/
theorem runSteps_append (as bs : List Act) (s : State) :
    runSteps (as ++ bs) s = (runSteps as s).andThen fun _ s' => runSteps bs s' := by
  induction as generalizing s with
  | nil => rfl
  | cons a rest ih => simp [andThen_assoc, ih]

/-- With the handle open, an operation that needs it runs (40_register_protocol.md R140(d)). -/
theorem needHandle_some (a : Act) (s : State) (h : Handle) (hh : s.handle = some h) :
    needHandle a s = a s := by
  simp [needHandle, hh]

/-- With no handle, an operation that needs it is refused: ERR only (40_register_protocol.md R140(d)). -/
theorem needHandle_none (a : Act) (s : State) (hh : s.handle = none) :
    needHandle a s = refuseNoHandle s := by
  simp [needHandle, hh]

/-- An answer that, if the machine does not stop, is as `P` says where the action is done and as `Q` says
where it raised. -/
def Res.Holds {α : Type} (P : α → State → Prop) (Q : Raise → State → Prop) : Res α → Prop
  | .done a s => P a s
  | .raised e s => Q e s
  | .stopped _ => True

/-- The machine does not stop. -/
def Res.Completes {α : Type} : Res α → Prop
  | .done _ _ => True
  | .raised _ _ => True
  | .stopped _ => False

section holds
variable {α β : Type} {P : α → State → Prop} {P' : β → State → Prop} {Q : Raise → State → Prop}

@[simp] theorem holds_done (a : α) (s : State) : (Res.done a s).Holds P Q ↔ P a s := Iff.rfl
@[simp] theorem holds_raised (e : Raise) (s : State) : (Res.raised e s : Res α).Holds P Q ↔ Q e s := Iff.rfl
@[simp] theorem holds_stopped (x : Fault) : (Res.stopped x : Res α).Holds P Q ↔ True := Iff.rfl
@[simp] theorem completes_done (a : α) (s : State) : (Res.done a s).Completes ↔ True := Iff.rfl
@[simp] theorem completes_raised (e : Raise) (s : State) :
    (Res.raised e s : Res α).Completes ↔ True := Iff.rfl
@[simp] theorem completes_stopped (x : Fault) : (Res.stopped x : Res α).Completes ↔ False := Iff.rfl

/-- A property of the first action and of what follows it is one of the sequence. -/
theorem holds_andThen {r : Res α} {f : α → State → Res β} (h : r.Holds P Q)
    (hf : ∀ a s, P a s → (f a s).Holds P' Q) : (r.andThen f).Holds P' Q := by
  cases r with
  | done a s => exact hf a s h
  | raised e s => exact h
  | stopped x => trivial

/-- A sequence completes where its first action does and what follows does. -/
theorem completes_andThen {r : Res α} {f : α → State → Res β} (hc : r.Completes) (h : r.Holds P Q)
    (hf : ∀ a s, P a s → (f a s).Completes) : (r.andThen f).Completes := by
  cases r with
  | done a s => exact hf a s h
  | raised e s => trivial
  | stopped x => exact hc

/-- A weaker property holds too. -/
theorem holds_mono {P₂ : α → State → Prop} {Q₂ : Raise → State → Prop} {r : Res α} (h : r.Holds P Q)
    (hp : ∀ a s, P a s → P₂ a s) (hq : ∀ e s, Q e s → Q₂ e s) : r.Holds P₂ Q₂ := by
  cases r with
  | done a s => exact hp a s h
  | raised e s => exact hq e s h
  | stopped x => trivial

/-- An absorbed error leaves what its policy leaves (60_exceptions.md R278, R279). -/
theorem holds_absorb {r : Res Unit} {p : Raise → State → State} {P : State → Prop} {Q : Raise → State → Prop}
    (h : r.Holds (fun _ s => P s) (fun e s => P (p e s))) : (r.absorb p).Holds (fun _ s => P s) Q := by
  cases r <;> exact h

theorem completes_absorb {r : Res Unit} {p : Raise → State → State} (h : r.Completes) :
    (r.absorb p).Completes := by
  cases r <;> exact h

/-- A property of the state every step keeps is kept by the operation, raised error or not. -/
theorem holds_runSteps {P : State → Prop} {as : List Act}
    (h : ∀ a ∈ as, ∀ s, P s → (a s).Holds (fun _ t => P t) (fun _ t => P t)) :
    ∀ s, P s → (runSteps as s).Holds (fun _ t => P t) (fun _ t => P t) := by
  induction as with
  | nil => intro s hs; exact hs
  | cons a rest ih =>
    intro s hs
    exact holds_andThen (h a List.mem_cons_self s hs)
      fun _ t ht => ih (fun b hb => h b (List.mem_cons_of_mem a hb)) t ht

/-- An operation completes where every step keeps a property under which the next one completes. -/
theorem completes_runSteps {P : State → Prop} {as : List Act}
    (h : ∀ a ∈ as, ∀ s, P s → (a s).Holds (fun _ t => P t) (fun _ t => P t))
    (hc : ∀ a ∈ as, ∀ s, P s → (a s).Completes) :
    ∀ s, P s → (runSteps as s).Completes := by
  induction as with
  | nil => intro s _; trivial
  | cons a rest ih =>
    intro s hs
    exact completes_andThen (hc a List.mem_cons_self s hs) (h a List.mem_cons_self s hs)
      fun _ t ht => ih (fun b hb => h b (List.mem_cons_of_mem a hb))
        (fun b hb => hc b (List.mem_cons_of_mem a hb)) t ht

/-- An operation that answers next: it was done or it raised (30_encoding.md R109). -/
theorem outcome_next {r : Res Unit} {t : State} (h : r.outcome = .next t) :
    r = .done () t ∨ ∃ e, r = .raised e t := by
  cases r with
  | done a s => left; simpa using h
  | raised e s => right; exact ⟨e, by simpa using h⟩
  | stopped x => simp at h

/-- What holds of an operation's answer holds of its next state. -/
theorem outcome_next_holds {r : Res Unit} {t : State} {P : State → Prop} (h : r.outcome = .next t)
    (hr : r.Holds (fun _ s => P s) (fun _ s => P s)) : P t := by
  rcases outcome_next h with rfl | ⟨e, rfl⟩ <;> exact hr

/-- An operation that completes answers next. -/
theorem outcome_completes {r : Res Unit} (h : r.Completes) : ∃ t, r.outcome = .next t := by
  cases r with
  | done a s => exact ⟨s, rfl⟩
  | raised e s => exact ⟨s, rfl⟩
  | stopped x => exact h.elim

/-- An operation never ends in a refusal. -/
theorem outcome_ne_refused (r : Res Unit) (x : Refusal) : r.outcome ≠ .refused x := by
  cases r <;> simp [Res.outcome]

end holds

end Sys2Proof.Machine
end

