-- ==== Sys2Proof/Laws/State.lean ====
section
/-! SUPPORT. One lemma per field per named update of the state, each true by rfl, so that no proof
unfolds an update. -/
namespace Sys2Proof.Machine

@[simp] theorem emit_cfg (e : Event) (s : State) : (emit e s).cfg = s.cfg := rfl
@[simp] theorem emit_cmd (e : Event) (s : State) : (emit e s).cmd = s.cmd := rfl
@[simp] theorem emit_argCh (e : Event) (s : State) : (emit e s).argCh = s.argCh := rfl
@[simp] theorem emit_argDuty (e : Event) (s : State) : (emit e s).argDuty = s.argDuty := rfl
@[simp] theorem emit_argFrac (e : Event) (s : State) : (emit e s).argFrac = s.argFrac := rfl
@[simp] theorem emit_argFreq (e : Event) (s : State) : (emit e s).argFreq = s.argFreq := rfl
@[simp] theorem emit_argMode (e : Event) (s : State) : (emit e s).argMode = s.argMode := rfl
@[simp] theorem emit_resDuty (e : Event) (s : State) : (emit e s).resDuty = s.resDuty := rfl
@[simp] theorem emit_resDutyWritten (e : Event) (s : State) : (emit e s).resDutyWritten = s.resDutyWritten := rfl
@[simp] theorem emit_resPresc (e : Event) (s : State) : (emit e s).resPresc = s.resPresc := rfl
@[simp] theorem emit_resPrescWritten (e : Event) (s : State) : (emit e s).resPrescWritten = s.resPrescWritten := rfl
@[simp] theorem emit_resSnap (e : Event) (s : State) : (emit e s).resSnap = s.resSnap := rfl
@[simp] theorem emit_resSnapWritten (e : Event) (s : State) : (emit e s).resSnapWritten = s.resSnapWritten := rfl
@[simp] theorem emit_snap (e : Event) (s : State) : (emit e s).snap = s.snap := rfl
@[simp] theorem emit_clr (e : Event) (s : State) : (emit e s).clr = s.clr := rfl
@[simp] theorem emit_handle (e : Event) (s : State) : (emit e s).handle = s.handle := rfl
@[simp] theorem emit_mcs (e : Event) (s : State) : (emit e s).mcs = s.mcs := rfl
@[simp] theorem emit_seq (e : Event) (s : State) : (emit e s).seq = s.seq := rfl
@[simp] theorem emit_runActive (e : Event) (s : State) : (emit e s).runActive = s.runActive := rfl
@[simp] theorem emit_term (e : Event) (s : State) : (emit e s).term = s.term := rfl
@[simp] theorem emit_calAttempted (e : Event) (s : State) : (emit e s).calAttempted = s.calAttempted := rfl
@[simp] theorem emit_err (e : Event) (s : State) : (emit e s).err = s.err := rfl
@[simp] theorem emit_gpioSetting (e : Event) (s : State) : (emit e s).gpioSetting = s.gpioSetting := rfl
@[simp] theorem emit_gpioPower (e : Event) (s : State) : (emit e s).gpioPower = s.gpioPower := rfl
@[simp] theorem emit_tr (e : Event) (s : State) : (emit e s).tr = s.tr ++ [e] := rfl
@[simp] theorem emit_chip (e : Event) (s : State) : (emit e s).chip = s.chip := rfl
@[simp] theorem emit_env (e : Event) (s : State) : (emit e s).env = s.env := rfl
@[simp] theorem emit_inbox (e : Event) (s : State) : (emit e s).inbox = s.inbox := rfl

@[simp] theorem logEvent_cfg (k : LogKind) (n : BitVec 16) (s : State) : (logEvent k n s).cfg = s.cfg := rfl
@[simp] theorem logEvent_cmd (k : LogKind) (n : BitVec 16) (s : State) : (logEvent k n s).cmd = s.cmd := rfl
@[simp] theorem logEvent_argCh (k : LogKind) (n : BitVec 16) (s : State) : (logEvent k n s).argCh = s.argCh := rfl
@[simp] theorem logEvent_argDuty (k : LogKind) (n : BitVec 16) (s : State) : (logEvent k n s).argDuty = s.argDuty := rfl
@[simp] theorem logEvent_argFrac (k : LogKind) (n : BitVec 16) (s : State) : (logEvent k n s).argFrac = s.argFrac := rfl
@[simp] theorem logEvent_argFreq (k : LogKind) (n : BitVec 16) (s : State) : (logEvent k n s).argFreq = s.argFreq := rfl
@[simp] theorem logEvent_argMode (k : LogKind) (n : BitVec 16) (s : State) : (logEvent k n s).argMode = s.argMode := rfl
@[simp] theorem logEvent_resDuty (k : LogKind) (n : BitVec 16) (s : State) : (logEvent k n s).resDuty = s.resDuty := rfl
@[simp] theorem logEvent_resDutyWritten (k : LogKind) (n : BitVec 16) (s : State) : (logEvent k n s).resDutyWritten = s.resDutyWritten := rfl
@[simp] theorem logEvent_resPresc (k : LogKind) (n : BitVec 16) (s : State) : (logEvent k n s).resPresc = s.resPresc := rfl
@[simp] theorem logEvent_resPrescWritten (k : LogKind) (n : BitVec 16) (s : State) : (logEvent k n s).resPrescWritten = s.resPrescWritten := rfl
@[simp] theorem logEvent_resSnap (k : LogKind) (n : BitVec 16) (s : State) : (logEvent k n s).resSnap = s.resSnap := rfl
@[simp] theorem logEvent_resSnapWritten (k : LogKind) (n : BitVec 16) (s : State) : (logEvent k n s).resSnapWritten = s.resSnapWritten := rfl
@[simp] theorem logEvent_snap (k : LogKind) (n : BitVec 16) (s : State) : (logEvent k n s).snap = s.snap := rfl
@[simp] theorem logEvent_clr (k : LogKind) (n : BitVec 16) (s : State) : (logEvent k n s).clr = s.clr := rfl
@[simp] theorem logEvent_handle (k : LogKind) (n : BitVec 16) (s : State) : (logEvent k n s).handle = s.handle := rfl
@[simp] theorem logEvent_mcs (k : LogKind) (n : BitVec 16) (s : State) : (logEvent k n s).mcs = s.mcs := rfl
@[simp] theorem logEvent_seq (k : LogKind) (n : BitVec 16) (s : State) : (logEvent k n s).seq = s.seq := rfl
@[simp] theorem logEvent_runActive (k : LogKind) (n : BitVec 16) (s : State) : (logEvent k n s).runActive = s.runActive := rfl
@[simp] theorem logEvent_term (k : LogKind) (n : BitVec 16) (s : State) : (logEvent k n s).term = s.term := rfl
@[simp] theorem logEvent_calAttempted (k : LogKind) (n : BitVec 16) (s : State) : (logEvent k n s).calAttempted = s.calAttempted := rfl
@[simp] theorem logEvent_err (k : LogKind) (n : BitVec 16) (s : State) : (logEvent k n s).err = s.err := rfl
@[simp] theorem logEvent_gpioSetting (k : LogKind) (n : BitVec 16) (s : State) : (logEvent k n s).gpioSetting = s.gpioSetting := rfl
@[simp] theorem logEvent_gpioPower (k : LogKind) (n : BitVec 16) (s : State) : (logEvent k n s).gpioPower = s.gpioPower := rfl
@[simp] theorem logEvent_tr (k : LogKind) (n : BitVec 16) (s : State) : (logEvent k n s).tr = s.tr ++ [.log k n] := rfl
@[simp] theorem logEvent_chip (k : LogKind) (n : BitVec 16) (s : State) : (logEvent k n s).chip = s.chip := rfl
@[simp] theorem logEvent_env (k : LogKind) (n : BitVec 16) (s : State) : (logEvent k n s).env = s.env := rfl
@[simp] theorem logEvent_inbox (k : LogKind) (n : BitVec 16) (s : State) : (logEvent k n s).inbox = s.inbox := rfl

@[simp] theorem busClose_cfg (s : State) : (busClose s).cfg = s.cfg := rfl
@[simp] theorem busClose_cmd (s : State) : (busClose s).cmd = s.cmd := rfl
@[simp] theorem busClose_argCh (s : State) : (busClose s).argCh = s.argCh := rfl
@[simp] theorem busClose_argDuty (s : State) : (busClose s).argDuty = s.argDuty := rfl
@[simp] theorem busClose_argFrac (s : State) : (busClose s).argFrac = s.argFrac := rfl
@[simp] theorem busClose_argFreq (s : State) : (busClose s).argFreq = s.argFreq := rfl
@[simp] theorem busClose_argMode (s : State) : (busClose s).argMode = s.argMode := rfl
@[simp] theorem busClose_resDuty (s : State) : (busClose s).resDuty = s.resDuty := rfl
@[simp] theorem busClose_resDutyWritten (s : State) : (busClose s).resDutyWritten = s.resDutyWritten := rfl
@[simp] theorem busClose_resPresc (s : State) : (busClose s).resPresc = s.resPresc := rfl
@[simp] theorem busClose_resPrescWritten (s : State) : (busClose s).resPrescWritten = s.resPrescWritten := rfl
@[simp] theorem busClose_resSnap (s : State) : (busClose s).resSnap = s.resSnap := rfl
@[simp] theorem busClose_resSnapWritten (s : State) : (busClose s).resSnapWritten = s.resSnapWritten := rfl
@[simp] theorem busClose_snap (s : State) : (busClose s).snap = s.snap := rfl
@[simp] theorem busClose_clr (s : State) : (busClose s).clr = s.clr := rfl
@[simp] theorem busClose_handle (s : State) : (busClose s).handle = s.handle := rfl
@[simp] theorem busClose_mcs (s : State) : (busClose s).mcs = s.mcs := rfl
@[simp] theorem busClose_seq (s : State) : (busClose s).seq = s.seq := rfl
@[simp] theorem busClose_runActive (s : State) : (busClose s).runActive = s.runActive := rfl
@[simp] theorem busClose_term (s : State) : (busClose s).term = s.term := rfl
@[simp] theorem busClose_calAttempted (s : State) : (busClose s).calAttempted = s.calAttempted := rfl
@[simp] theorem busClose_err (s : State) : (busClose s).err = s.err := rfl
@[simp] theorem busClose_gpioSetting (s : State) : (busClose s).gpioSetting = s.gpioSetting := rfl
@[simp] theorem busClose_gpioPower (s : State) : (busClose s).gpioPower = s.gpioPower := rfl
@[simp] theorem busClose_tr (s : State) : (busClose s).tr = s.tr ++ [.busClose] := rfl
@[simp] theorem busClose_chip (s : State) : (busClose s).chip = s.chip := rfl
@[simp] theorem busClose_env (s : State) : (busClose s).env = s.env := rfl
@[simp] theorem busClose_inbox (s : State) : (busClose s).inbox = s.inbox := rfl

@[simp] theorem clearErr_cfg (s : State) : (clearErr s).cfg = s.cfg := rfl
@[simp] theorem clearErr_cmd (s : State) : (clearErr s).cmd = s.cmd := rfl
@[simp] theorem clearErr_argCh (s : State) : (clearErr s).argCh = s.argCh := rfl
@[simp] theorem clearErr_argDuty (s : State) : (clearErr s).argDuty = s.argDuty := rfl
@[simp] theorem clearErr_argFrac (s : State) : (clearErr s).argFrac = s.argFrac := rfl
@[simp] theorem clearErr_argFreq (s : State) : (clearErr s).argFreq = s.argFreq := rfl
@[simp] theorem clearErr_argMode (s : State) : (clearErr s).argMode = s.argMode := rfl
@[simp] theorem clearErr_resDuty (s : State) : (clearErr s).resDuty = s.resDuty := rfl
@[simp] theorem clearErr_resDutyWritten (s : State) : (clearErr s).resDutyWritten = s.resDutyWritten := rfl
@[simp] theorem clearErr_resPresc (s : State) : (clearErr s).resPresc = s.resPresc := rfl
@[simp] theorem clearErr_resPrescWritten (s : State) : (clearErr s).resPrescWritten = s.resPrescWritten := rfl
@[simp] theorem clearErr_resSnap (s : State) : (clearErr s).resSnap = s.resSnap := rfl
@[simp] theorem clearErr_resSnapWritten (s : State) : (clearErr s).resSnapWritten = s.resSnapWritten := rfl
@[simp] theorem clearErr_snap (s : State) : (clearErr s).snap = s.snap := rfl
@[simp] theorem clearErr_clr (s : State) : (clearErr s).clr = s.clr := rfl
@[simp] theorem clearErr_handle (s : State) : (clearErr s).handle = s.handle := rfl
@[simp] theorem clearErr_mcs (s : State) : (clearErr s).mcs = s.mcs := rfl
@[simp] theorem clearErr_seq (s : State) : (clearErr s).seq = s.seq := rfl
@[simp] theorem clearErr_runActive (s : State) : (clearErr s).runActive = s.runActive := rfl
@[simp] theorem clearErr_term (s : State) : (clearErr s).term = s.term := rfl
@[simp] theorem clearErr_calAttempted (s : State) : (clearErr s).calAttempted = s.calAttempted := rfl
@[simp] theorem clearErr_err (s : State) : (clearErr s).err = ⟨0, 0⟩ := rfl
@[simp] theorem clearErr_gpioSetting (s : State) : (clearErr s).gpioSetting = s.gpioSetting := rfl
@[simp] theorem clearErr_gpioPower (s : State) : (clearErr s).gpioPower = s.gpioPower := rfl
@[simp] theorem clearErr_tr (s : State) : (clearErr s).tr = s.tr := rfl
@[simp] theorem clearErr_chip (s : State) : (clearErr s).chip = s.chip := rfl
@[simp] theorem clearErr_env (s : State) : (clearErr s).env = s.env := rfl
@[simp] theorem clearErr_inbox (s : State) : (clearErr s).inbox = s.inbox := rfl

@[simp] theorem setErr_cfg (k : ErrKind) (n : BitVec 16) (s : State) : (setErr k n s).cfg = s.cfg := rfl
@[simp] theorem setErr_cmd (k : ErrKind) (n : BitVec 16) (s : State) : (setErr k n s).cmd = s.cmd := rfl
@[simp] theorem setErr_argCh (k : ErrKind) (n : BitVec 16) (s : State) : (setErr k n s).argCh = s.argCh := rfl
@[simp] theorem setErr_argDuty (k : ErrKind) (n : BitVec 16) (s : State) : (setErr k n s).argDuty = s.argDuty := rfl
@[simp] theorem setErr_argFrac (k : ErrKind) (n : BitVec 16) (s : State) : (setErr k n s).argFrac = s.argFrac := rfl
@[simp] theorem setErr_argFreq (k : ErrKind) (n : BitVec 16) (s : State) : (setErr k n s).argFreq = s.argFreq := rfl
@[simp] theorem setErr_argMode (k : ErrKind) (n : BitVec 16) (s : State) : (setErr k n s).argMode = s.argMode := rfl
@[simp] theorem setErr_resDuty (k : ErrKind) (n : BitVec 16) (s : State) : (setErr k n s).resDuty = s.resDuty := rfl
@[simp] theorem setErr_resDutyWritten (k : ErrKind) (n : BitVec 16) (s : State) : (setErr k n s).resDutyWritten = s.resDutyWritten := rfl
@[simp] theorem setErr_resPresc (k : ErrKind) (n : BitVec 16) (s : State) : (setErr k n s).resPresc = s.resPresc := rfl
@[simp] theorem setErr_resPrescWritten (k : ErrKind) (n : BitVec 16) (s : State) : (setErr k n s).resPrescWritten = s.resPrescWritten := rfl
@[simp] theorem setErr_resSnap (k : ErrKind) (n : BitVec 16) (s : State) : (setErr k n s).resSnap = s.resSnap := rfl
@[simp] theorem setErr_resSnapWritten (k : ErrKind) (n : BitVec 16) (s : State) : (setErr k n s).resSnapWritten = s.resSnapWritten := rfl
@[simp] theorem setErr_snap (k : ErrKind) (n : BitVec 16) (s : State) : (setErr k n s).snap = s.snap := rfl
@[simp] theorem setErr_clr (k : ErrKind) (n : BitVec 16) (s : State) : (setErr k n s).clr = s.clr := rfl
@[simp] theorem setErr_handle (k : ErrKind) (n : BitVec 16) (s : State) : (setErr k n s).handle = s.handle := rfl
@[simp] theorem setErr_mcs (k : ErrKind) (n : BitVec 16) (s : State) : (setErr k n s).mcs = s.mcs := rfl
@[simp] theorem setErr_seq (k : ErrKind) (n : BitVec 16) (s : State) : (setErr k n s).seq = s.seq := rfl
@[simp] theorem setErr_runActive (k : ErrKind) (n : BitVec 16) (s : State) : (setErr k n s).runActive = s.runActive := rfl
@[simp] theorem setErr_term (k : ErrKind) (n : BitVec 16) (s : State) : (setErr k n s).term = s.term := rfl
@[simp] theorem setErr_calAttempted (k : ErrKind) (n : BitVec 16) (s : State) : (setErr k n s).calAttempted = s.calAttempted := rfl
@[simp] theorem setErr_err (k : ErrKind) (n : BitVec 16) (s : State) : (setErr k n s).err = ⟨errCode k, n⟩ := rfl
@[simp] theorem setErr_gpioSetting (k : ErrKind) (n : BitVec 16) (s : State) : (setErr k n s).gpioSetting = s.gpioSetting := rfl
@[simp] theorem setErr_gpioPower (k : ErrKind) (n : BitVec 16) (s : State) : (setErr k n s).gpioPower = s.gpioPower := rfl
@[simp] theorem setErr_tr (k : ErrKind) (n : BitVec 16) (s : State) : (setErr k n s).tr = s.tr := rfl
@[simp] theorem setErr_chip (k : ErrKind) (n : BitVec 16) (s : State) : (setErr k n s).chip = s.chip := rfl
@[simp] theorem setErr_env (k : ErrKind) (n : BitVec 16) (s : State) : (setErr k n s).env = s.env := rfl
@[simp] theorem setErr_inbox (k : ErrKind) (n : BitVec 16) (s : State) : (setErr k n s).inbox = s.inbox := rfl

@[simp] theorem latchTerm_cfg (b : Bool) (s : State) : (latchTerm b s).cfg = s.cfg := rfl
@[simp] theorem latchTerm_cmd (b : Bool) (s : State) : (latchTerm b s).cmd = s.cmd := rfl
@[simp] theorem latchTerm_argCh (b : Bool) (s : State) : (latchTerm b s).argCh = s.argCh := rfl
@[simp] theorem latchTerm_argDuty (b : Bool) (s : State) : (latchTerm b s).argDuty = s.argDuty := rfl
@[simp] theorem latchTerm_argFrac (b : Bool) (s : State) : (latchTerm b s).argFrac = s.argFrac := rfl
@[simp] theorem latchTerm_argFreq (b : Bool) (s : State) : (latchTerm b s).argFreq = s.argFreq := rfl
@[simp] theorem latchTerm_argMode (b : Bool) (s : State) : (latchTerm b s).argMode = s.argMode := rfl
@[simp] theorem latchTerm_resDuty (b : Bool) (s : State) : (latchTerm b s).resDuty = s.resDuty := rfl
@[simp] theorem latchTerm_resDutyWritten (b : Bool) (s : State) : (latchTerm b s).resDutyWritten = s.resDutyWritten := rfl
@[simp] theorem latchTerm_resPresc (b : Bool) (s : State) : (latchTerm b s).resPresc = s.resPresc := rfl
@[simp] theorem latchTerm_resPrescWritten (b : Bool) (s : State) : (latchTerm b s).resPrescWritten = s.resPrescWritten := rfl
@[simp] theorem latchTerm_resSnap (b : Bool) (s : State) : (latchTerm b s).resSnap = s.resSnap := rfl
@[simp] theorem latchTerm_resSnapWritten (b : Bool) (s : State) : (latchTerm b s).resSnapWritten = s.resSnapWritten := rfl
@[simp] theorem latchTerm_snap (b : Bool) (s : State) : (latchTerm b s).snap = s.snap := rfl
@[simp] theorem latchTerm_clr (b : Bool) (s : State) : (latchTerm b s).clr = s.clr := rfl
@[simp] theorem latchTerm_handle (b : Bool) (s : State) : (latchTerm b s).handle = s.handle := rfl
@[simp] theorem latchTerm_mcs (b : Bool) (s : State) : (latchTerm b s).mcs = s.mcs := rfl
@[simp] theorem latchTerm_seq (b : Bool) (s : State) : (latchTerm b s).seq = s.seq := rfl
@[simp] theorem latchTerm_runActive (b : Bool) (s : State) : (latchTerm b s).runActive = s.runActive := rfl
@[simp] theorem latchTerm_term (b : Bool) (s : State) : (latchTerm b s).term = (s.term || b) := rfl
@[simp] theorem latchTerm_calAttempted (b : Bool) (s : State) : (latchTerm b s).calAttempted = s.calAttempted := rfl
@[simp] theorem latchTerm_err (b : Bool) (s : State) : (latchTerm b s).err = s.err := rfl
@[simp] theorem latchTerm_gpioSetting (b : Bool) (s : State) : (latchTerm b s).gpioSetting = s.gpioSetting := rfl
@[simp] theorem latchTerm_gpioPower (b : Bool) (s : State) : (latchTerm b s).gpioPower = s.gpioPower := rfl
@[simp] theorem latchTerm_tr (b : Bool) (s : State) : (latchTerm b s).tr = s.tr := rfl
@[simp] theorem latchTerm_chip (b : Bool) (s : State) : (latchTerm b s).chip = s.chip := rfl
@[simp] theorem latchTerm_env (b : Bool) (s : State) : (latchTerm b s).env = s.env := rfl
@[simp] theorem latchTerm_inbox (b : Bool) (s : State) : (latchTerm b s).inbox = s.inbox := rfl

@[simp] theorem setPhase_cfg (p : Phase) (s : State) : (setPhase p s).cfg = s.cfg := rfl
@[simp] theorem setPhase_cmd (p : Phase) (s : State) : (setPhase p s).cmd = s.cmd := rfl
@[simp] theorem setPhase_argCh (p : Phase) (s : State) : (setPhase p s).argCh = s.argCh := rfl
@[simp] theorem setPhase_argDuty (p : Phase) (s : State) : (setPhase p s).argDuty = s.argDuty := rfl
@[simp] theorem setPhase_argFrac (p : Phase) (s : State) : (setPhase p s).argFrac = s.argFrac := rfl
@[simp] theorem setPhase_argFreq (p : Phase) (s : State) : (setPhase p s).argFreq = s.argFreq := rfl
@[simp] theorem setPhase_argMode (p : Phase) (s : State) : (setPhase p s).argMode = s.argMode := rfl
@[simp] theorem setPhase_resDuty (p : Phase) (s : State) : (setPhase p s).resDuty = s.resDuty := rfl
@[simp] theorem setPhase_resDutyWritten (p : Phase) (s : State) : (setPhase p s).resDutyWritten = s.resDutyWritten := rfl
@[simp] theorem setPhase_resPresc (p : Phase) (s : State) : (setPhase p s).resPresc = s.resPresc := rfl
@[simp] theorem setPhase_resPrescWritten (p : Phase) (s : State) : (setPhase p s).resPrescWritten = s.resPrescWritten := rfl
@[simp] theorem setPhase_resSnap (p : Phase) (s : State) : (setPhase p s).resSnap = s.resSnap := rfl
@[simp] theorem setPhase_resSnapWritten (p : Phase) (s : State) : (setPhase p s).resSnapWritten = s.resSnapWritten := rfl
@[simp] theorem setPhase_snap (p : Phase) (s : State) : (setPhase p s).snap = s.snap := rfl
@[simp] theorem setPhase_clr (p : Phase) (s : State) : (setPhase p s).clr = s.clr := rfl
@[simp] theorem setPhase_handle (p : Phase) (s : State) : (setPhase p s).handle = s.handle := rfl
@[simp] theorem setPhase_mcs (p : Phase) (s : State) : (setPhase p s).mcs = s.mcs := rfl
@[simp] theorem setPhase_seq (p : Phase) (s : State) : (setPhase p s).seq = { s.seq with phase := p } := rfl
@[simp] theorem setPhase_runActive (p : Phase) (s : State) : (setPhase p s).runActive = s.runActive := rfl
@[simp] theorem setPhase_term (p : Phase) (s : State) : (setPhase p s).term = s.term := rfl
@[simp] theorem setPhase_calAttempted (p : Phase) (s : State) : (setPhase p s).calAttempted = s.calAttempted := rfl
@[simp] theorem setPhase_err (p : Phase) (s : State) : (setPhase p s).err = s.err := rfl
@[simp] theorem setPhase_gpioSetting (p : Phase) (s : State) : (setPhase p s).gpioSetting = s.gpioSetting := rfl
@[simp] theorem setPhase_gpioPower (p : Phase) (s : State) : (setPhase p s).gpioPower = s.gpioPower := rfl
@[simp] theorem setPhase_tr (p : Phase) (s : State) : (setPhase p s).tr = s.tr := rfl
@[simp] theorem setPhase_chip (p : Phase) (s : State) : (setPhase p s).chip = s.chip := rfl
@[simp] theorem setPhase_env (p : Phase) (s : State) : (setPhase p s).env = s.env := rfl
@[simp] theorem setPhase_inbox (p : Phase) (s : State) : (setPhase p s).inbox = s.inbox := rfl

@[simp] theorem exitRun_cfg (n : Nat) (s : State) : (exitRun n s).cfg = s.cfg := rfl
@[simp] theorem exitRun_cmd (n : Nat) (s : State) : (exitRun n s).cmd = s.cmd := rfl
@[simp] theorem exitRun_argCh (n : Nat) (s : State) : (exitRun n s).argCh = s.argCh := rfl
@[simp] theorem exitRun_argDuty (n : Nat) (s : State) : (exitRun n s).argDuty = s.argDuty := rfl
@[simp] theorem exitRun_argFrac (n : Nat) (s : State) : (exitRun n s).argFrac = s.argFrac := rfl
@[simp] theorem exitRun_argFreq (n : Nat) (s : State) : (exitRun n s).argFreq = s.argFreq := rfl
@[simp] theorem exitRun_argMode (n : Nat) (s : State) : (exitRun n s).argMode = s.argMode := rfl
@[simp] theorem exitRun_resDuty (n : Nat) (s : State) : (exitRun n s).resDuty = s.resDuty := rfl
@[simp] theorem exitRun_resDutyWritten (n : Nat) (s : State) : (exitRun n s).resDutyWritten = s.resDutyWritten := rfl
@[simp] theorem exitRun_resPresc (n : Nat) (s : State) : (exitRun n s).resPresc = s.resPresc := rfl
@[simp] theorem exitRun_resPrescWritten (n : Nat) (s : State) : (exitRun n s).resPrescWritten = s.resPrescWritten := rfl
@[simp] theorem exitRun_resSnap (n : Nat) (s : State) : (exitRun n s).resSnap = s.resSnap := rfl
@[simp] theorem exitRun_resSnapWritten (n : Nat) (s : State) : (exitRun n s).resSnapWritten = s.resSnapWritten := rfl
@[simp] theorem exitRun_snap (n : Nat) (s : State) : (exitRun n s).snap = s.snap := rfl
@[simp] theorem exitRun_clr (n : Nat) (s : State) : (exitRun n s).clr = s.clr := rfl
@[simp] theorem exitRun_handle (n : Nat) (s : State) : (exitRun n s).handle = s.handle := rfl
@[simp] theorem exitRun_mcs (n : Nat) (s : State) : (exitRun n s).mcs = s.mcs := rfl
@[simp] theorem exitRun_seq (n : Nat) (s : State) : (exitRun n s).seq = { s.seq with phase := .halted n } := rfl
@[simp] theorem exitRun_runActive (n : Nat) (s : State) : (exitRun n s).runActive = false := rfl
@[simp] theorem exitRun_term (n : Nat) (s : State) : (exitRun n s).term = s.term := rfl
@[simp] theorem exitRun_calAttempted (n : Nat) (s : State) : (exitRun n s).calAttempted = s.calAttempted := rfl
@[simp] theorem exitRun_err (n : Nat) (s : State) : (exitRun n s).err = s.err := rfl
@[simp] theorem exitRun_gpioSetting (n : Nat) (s : State) : (exitRun n s).gpioSetting = s.gpioSetting := rfl
@[simp] theorem exitRun_gpioPower (n : Nat) (s : State) : (exitRun n s).gpioPower = s.gpioPower := rfl
@[simp] theorem exitRun_tr (n : Nat) (s : State) : (exitRun n s).tr = s.tr ++ [.exit n] := rfl
@[simp] theorem exitRun_chip (n : Nat) (s : State) : (exitRun n s).chip = s.chip := rfl
@[simp] theorem exitRun_env (n : Nat) (s : State) : (exitRun n s).env = s.env := rfl
@[simp] theorem exitRun_inbox (n : Nat) (s : State) : (exitRun n s).inbox = s.inbox := rfl

@[simp] theorem takeInput_cfg (s : State) : (takeInput s).cfg = s.cfg := rfl
@[simp] theorem takeInput_cmd (s : State) : (takeInput s).cmd = s.cmd := rfl
@[simp] theorem takeInput_argCh (s : State) : (takeInput s).argCh = s.argCh := rfl
@[simp] theorem takeInput_argDuty (s : State) : (takeInput s).argDuty = s.argDuty := rfl
@[simp] theorem takeInput_argFrac (s : State) : (takeInput s).argFrac = s.argFrac := rfl
@[simp] theorem takeInput_argFreq (s : State) : (takeInput s).argFreq = s.argFreq := rfl
@[simp] theorem takeInput_argMode (s : State) : (takeInput s).argMode = s.argMode := rfl
@[simp] theorem takeInput_resDuty (s : State) : (takeInput s).resDuty = s.resDuty := rfl
@[simp] theorem takeInput_resDutyWritten (s : State) : (takeInput s).resDutyWritten = s.resDutyWritten := rfl
@[simp] theorem takeInput_resPresc (s : State) : (takeInput s).resPresc = s.resPresc := rfl
@[simp] theorem takeInput_resPrescWritten (s : State) : (takeInput s).resPrescWritten = s.resPrescWritten := rfl
@[simp] theorem takeInput_resSnap (s : State) : (takeInput s).resSnap = s.resSnap := rfl
@[simp] theorem takeInput_resSnapWritten (s : State) : (takeInput s).resSnapWritten = s.resSnapWritten := rfl
@[simp] theorem takeInput_snap (s : State) : (takeInput s).snap = s.snap := rfl
@[simp] theorem takeInput_clr (s : State) : (takeInput s).clr = s.clr := rfl
@[simp] theorem takeInput_handle (s : State) : (takeInput s).handle = s.handle := rfl
@[simp] theorem takeInput_mcs (s : State) : (takeInput s).mcs = s.mcs := rfl
@[simp] theorem takeInput_seq (s : State) : (takeInput s).seq = s.seq := rfl
@[simp] theorem takeInput_runActive (s : State) : (takeInput s).runActive = s.runActive := rfl
@[simp] theorem takeInput_term (s : State) : (takeInput s).term = (s.term || (s.inbox.headD Input.quiet).term) := rfl
@[simp] theorem takeInput_calAttempted (s : State) : (takeInput s).calAttempted = s.calAttempted := rfl
@[simp] theorem takeInput_err (s : State) : (takeInput s).err = s.err := rfl
@[simp] theorem takeInput_gpioSetting (s : State) : (takeInput s).gpioSetting = s.gpioSetting := rfl
@[simp] theorem takeInput_gpioPower (s : State) : (takeInput s).gpioPower = s.gpioPower := rfl
@[simp] theorem takeInput_tr (s : State) : (takeInput s).tr = s.tr := rfl
@[simp] theorem takeInput_chip (s : State) : (takeInput s).chip = s.chip := rfl
@[simp] theorem takeInput_env (s : State) : (takeInput s).env = s.env := rfl
@[simp] theorem takeInput_inbox (s : State) : (takeInput s).inbox = s.inbox.tail := rfl

@[simp] theorem setGpioLine_setting_cfg (g : GpioLine) (s : State) : (setGpioLine .setting g s).cfg = s.cfg := rfl
@[simp] theorem setGpioLine_setting_cmd (g : GpioLine) (s : State) : (setGpioLine .setting g s).cmd = s.cmd := rfl
@[simp] theorem setGpioLine_setting_argCh (g : GpioLine) (s : State) : (setGpioLine .setting g s).argCh = s.argCh := rfl
@[simp] theorem setGpioLine_setting_argDuty (g : GpioLine) (s : State) : (setGpioLine .setting g s).argDuty = s.argDuty := rfl
@[simp] theorem setGpioLine_setting_argFrac (g : GpioLine) (s : State) : (setGpioLine .setting g s).argFrac = s.argFrac := rfl
@[simp] theorem setGpioLine_setting_argFreq (g : GpioLine) (s : State) : (setGpioLine .setting g s).argFreq = s.argFreq := rfl
@[simp] theorem setGpioLine_setting_argMode (g : GpioLine) (s : State) : (setGpioLine .setting g s).argMode = s.argMode := rfl
@[simp] theorem setGpioLine_setting_resDuty (g : GpioLine) (s : State) : (setGpioLine .setting g s).resDuty = s.resDuty := rfl
@[simp] theorem setGpioLine_setting_resDutyWritten (g : GpioLine) (s : State) : (setGpioLine .setting g s).resDutyWritten = s.resDutyWritten := rfl
@[simp] theorem setGpioLine_setting_resPresc (g : GpioLine) (s : State) : (setGpioLine .setting g s).resPresc = s.resPresc := rfl
@[simp] theorem setGpioLine_setting_resPrescWritten (g : GpioLine) (s : State) : (setGpioLine .setting g s).resPrescWritten = s.resPrescWritten := rfl
@[simp] theorem setGpioLine_setting_resSnap (g : GpioLine) (s : State) : (setGpioLine .setting g s).resSnap = s.resSnap := rfl
@[simp] theorem setGpioLine_setting_resSnapWritten (g : GpioLine) (s : State) : (setGpioLine .setting g s).resSnapWritten = s.resSnapWritten := rfl
@[simp] theorem setGpioLine_setting_snap (g : GpioLine) (s : State) : (setGpioLine .setting g s).snap = s.snap := rfl
@[simp] theorem setGpioLine_setting_clr (g : GpioLine) (s : State) : (setGpioLine .setting g s).clr = s.clr := rfl
@[simp] theorem setGpioLine_setting_handle (g : GpioLine) (s : State) : (setGpioLine .setting g s).handle = s.handle := rfl
@[simp] theorem setGpioLine_setting_mcs (g : GpioLine) (s : State) : (setGpioLine .setting g s).mcs = s.mcs := rfl
@[simp] theorem setGpioLine_setting_seq (g : GpioLine) (s : State) : (setGpioLine .setting g s).seq = s.seq := rfl
@[simp] theorem setGpioLine_setting_runActive (g : GpioLine) (s : State) : (setGpioLine .setting g s).runActive = s.runActive := rfl
@[simp] theorem setGpioLine_setting_term (g : GpioLine) (s : State) : (setGpioLine .setting g s).term = s.term := rfl
@[simp] theorem setGpioLine_setting_calAttempted (g : GpioLine) (s : State) : (setGpioLine .setting g s).calAttempted = s.calAttempted := rfl
@[simp] theorem setGpioLine_setting_err (g : GpioLine) (s : State) : (setGpioLine .setting g s).err = s.err := rfl
@[simp] theorem setGpioLine_setting_gpioSetting (g : GpioLine) (s : State) : (setGpioLine .setting g s).gpioSetting = g := rfl
@[simp] theorem setGpioLine_setting_gpioPower (g : GpioLine) (s : State) : (setGpioLine .setting g s).gpioPower = s.gpioPower := rfl
@[simp] theorem setGpioLine_setting_tr (g : GpioLine) (s : State) : (setGpioLine .setting g s).tr = s.tr := rfl
@[simp] theorem setGpioLine_setting_chip (g : GpioLine) (s : State) : (setGpioLine .setting g s).chip = s.chip := rfl
@[simp] theorem setGpioLine_setting_env (g : GpioLine) (s : State) : (setGpioLine .setting g s).env = s.env := rfl
@[simp] theorem setGpioLine_setting_inbox (g : GpioLine) (s : State) : (setGpioLine .setting g s).inbox = s.inbox := rfl

@[simp] theorem gpioLine_setting (s : State) : gpioLine .setting s = s.gpioSetting := rfl

@[simp] theorem setGpioLine_power_cfg (g : GpioLine) (s : State) : (setGpioLine .power g s).cfg = s.cfg := rfl
@[simp] theorem setGpioLine_power_cmd (g : GpioLine) (s : State) : (setGpioLine .power g s).cmd = s.cmd := rfl
@[simp] theorem setGpioLine_power_argCh (g : GpioLine) (s : State) : (setGpioLine .power g s).argCh = s.argCh := rfl
@[simp] theorem setGpioLine_power_argDuty (g : GpioLine) (s : State) : (setGpioLine .power g s).argDuty = s.argDuty := rfl
@[simp] theorem setGpioLine_power_argFrac (g : GpioLine) (s : State) : (setGpioLine .power g s).argFrac = s.argFrac := rfl
@[simp] theorem setGpioLine_power_argFreq (g : GpioLine) (s : State) : (setGpioLine .power g s).argFreq = s.argFreq := rfl
@[simp] theorem setGpioLine_power_argMode (g : GpioLine) (s : State) : (setGpioLine .power g s).argMode = s.argMode := rfl
@[simp] theorem setGpioLine_power_resDuty (g : GpioLine) (s : State) : (setGpioLine .power g s).resDuty = s.resDuty := rfl
@[simp] theorem setGpioLine_power_resDutyWritten (g : GpioLine) (s : State) : (setGpioLine .power g s).resDutyWritten = s.resDutyWritten := rfl
@[simp] theorem setGpioLine_power_resPresc (g : GpioLine) (s : State) : (setGpioLine .power g s).resPresc = s.resPresc := rfl
@[simp] theorem setGpioLine_power_resPrescWritten (g : GpioLine) (s : State) : (setGpioLine .power g s).resPrescWritten = s.resPrescWritten := rfl
@[simp] theorem setGpioLine_power_resSnap (g : GpioLine) (s : State) : (setGpioLine .power g s).resSnap = s.resSnap := rfl
@[simp] theorem setGpioLine_power_resSnapWritten (g : GpioLine) (s : State) : (setGpioLine .power g s).resSnapWritten = s.resSnapWritten := rfl
@[simp] theorem setGpioLine_power_snap (g : GpioLine) (s : State) : (setGpioLine .power g s).snap = s.snap := rfl
@[simp] theorem setGpioLine_power_clr (g : GpioLine) (s : State) : (setGpioLine .power g s).clr = s.clr := rfl
@[simp] theorem setGpioLine_power_handle (g : GpioLine) (s : State) : (setGpioLine .power g s).handle = s.handle := rfl
@[simp] theorem setGpioLine_power_mcs (g : GpioLine) (s : State) : (setGpioLine .power g s).mcs = s.mcs := rfl
@[simp] theorem setGpioLine_power_seq (g : GpioLine) (s : State) : (setGpioLine .power g s).seq = s.seq := rfl
@[simp] theorem setGpioLine_power_runActive (g : GpioLine) (s : State) : (setGpioLine .power g s).runActive = s.runActive := rfl
@[simp] theorem setGpioLine_power_term (g : GpioLine) (s : State) : (setGpioLine .power g s).term = s.term := rfl
@[simp] theorem setGpioLine_power_calAttempted (g : GpioLine) (s : State) : (setGpioLine .power g s).calAttempted = s.calAttempted := rfl
@[simp] theorem setGpioLine_power_err (g : GpioLine) (s : State) : (setGpioLine .power g s).err = s.err := rfl
@[simp] theorem setGpioLine_power_gpioSetting (g : GpioLine) (s : State) : (setGpioLine .power g s).gpioSetting = s.gpioSetting := rfl
@[simp] theorem setGpioLine_power_gpioPower (g : GpioLine) (s : State) : (setGpioLine .power g s).gpioPower = g := rfl
@[simp] theorem setGpioLine_power_tr (g : GpioLine) (s : State) : (setGpioLine .power g s).tr = s.tr := rfl
@[simp] theorem setGpioLine_power_chip (g : GpioLine) (s : State) : (setGpioLine .power g s).chip = s.chip := rfl
@[simp] theorem setGpioLine_power_env (g : GpioLine) (s : State) : (setGpioLine .power g s).env = s.env := rfl
@[simp] theorem setGpioLine_power_inbox (g : GpioLine) (s : State) : (setGpioLine .power g s).inbox = s.inbox := rfl

@[simp] theorem gpioLine_power (s : State) : gpioLine .power s = s.gpioPower := rfl

@[simp] theorem markReleased_setting_cfg (s : State) : (markReleased .setting s).cfg = s.cfg := rfl
@[simp] theorem markReleased_setting_cmd (s : State) : (markReleased .setting s).cmd = s.cmd := rfl
@[simp] theorem markReleased_setting_argCh (s : State) : (markReleased .setting s).argCh = s.argCh := rfl
@[simp] theorem markReleased_setting_argDuty (s : State) : (markReleased .setting s).argDuty = s.argDuty := rfl
@[simp] theorem markReleased_setting_argFrac (s : State) : (markReleased .setting s).argFrac = s.argFrac := rfl
@[simp] theorem markReleased_setting_argFreq (s : State) : (markReleased .setting s).argFreq = s.argFreq := rfl
@[simp] theorem markReleased_setting_argMode (s : State) : (markReleased .setting s).argMode = s.argMode := rfl
@[simp] theorem markReleased_setting_resDuty (s : State) : (markReleased .setting s).resDuty = s.resDuty := rfl
@[simp] theorem markReleased_setting_resDutyWritten (s : State) : (markReleased .setting s).resDutyWritten = s.resDutyWritten := rfl
@[simp] theorem markReleased_setting_resPresc (s : State) : (markReleased .setting s).resPresc = s.resPresc := rfl
@[simp] theorem markReleased_setting_resPrescWritten (s : State) : (markReleased .setting s).resPrescWritten = s.resPrescWritten := rfl
@[simp] theorem markReleased_setting_resSnap (s : State) : (markReleased .setting s).resSnap = s.resSnap := rfl
@[simp] theorem markReleased_setting_resSnapWritten (s : State) : (markReleased .setting s).resSnapWritten = s.resSnapWritten := rfl
@[simp] theorem markReleased_setting_snap (s : State) : (markReleased .setting s).snap = s.snap := rfl
@[simp] theorem markReleased_setting_clr (s : State) : (markReleased .setting s).clr = s.clr := rfl
@[simp] theorem markReleased_setting_handle (s : State) : (markReleased .setting s).handle = s.handle := rfl
@[simp] theorem markReleased_setting_mcs (s : State) : (markReleased .setting s).mcs = s.mcs := rfl
@[simp] theorem markReleased_setting_seq (s : State) : (markReleased .setting s).seq = s.seq := rfl
@[simp] theorem markReleased_setting_runActive (s : State) : (markReleased .setting s).runActive = s.runActive := rfl
@[simp] theorem markReleased_setting_term (s : State) : (markReleased .setting s).term = s.term := rfl
@[simp] theorem markReleased_setting_calAttempted (s : State) : (markReleased .setting s).calAttempted = s.calAttempted := rfl
@[simp] theorem markReleased_setting_err (s : State) : (markReleased .setting s).err = s.err := rfl
@[simp] theorem markReleased_setting_gpioSetting (s : State) : (markReleased .setting s).gpioSetting = ⟨false, .unknown⟩ := rfl
@[simp] theorem markReleased_setting_gpioPower (s : State) : (markReleased .setting s).gpioPower = s.gpioPower := rfl
@[simp] theorem markReleased_setting_tr (s : State) : (markReleased .setting s).tr = s.tr ++ [.gpioRel .setting] := rfl
@[simp] theorem markReleased_setting_chip (s : State) : (markReleased .setting s).chip = s.chip := rfl
@[simp] theorem markReleased_setting_env (s : State) : (markReleased .setting s).env = s.env := rfl
@[simp] theorem markReleased_setting_inbox (s : State) : (markReleased .setting s).inbox = s.inbox := rfl

@[simp] theorem markReleased_power_cfg (s : State) : (markReleased .power s).cfg = s.cfg := rfl
@[simp] theorem markReleased_power_cmd (s : State) : (markReleased .power s).cmd = s.cmd := rfl
@[simp] theorem markReleased_power_argCh (s : State) : (markReleased .power s).argCh = s.argCh := rfl
@[simp] theorem markReleased_power_argDuty (s : State) : (markReleased .power s).argDuty = s.argDuty := rfl
@[simp] theorem markReleased_power_argFrac (s : State) : (markReleased .power s).argFrac = s.argFrac := rfl
@[simp] theorem markReleased_power_argFreq (s : State) : (markReleased .power s).argFreq = s.argFreq := rfl
@[simp] theorem markReleased_power_argMode (s : State) : (markReleased .power s).argMode = s.argMode := rfl
@[simp] theorem markReleased_power_resDuty (s : State) : (markReleased .power s).resDuty = s.resDuty := rfl
@[simp] theorem markReleased_power_resDutyWritten (s : State) : (markReleased .power s).resDutyWritten = s.resDutyWritten := rfl
@[simp] theorem markReleased_power_resPresc (s : State) : (markReleased .power s).resPresc = s.resPresc := rfl
@[simp] theorem markReleased_power_resPrescWritten (s : State) : (markReleased .power s).resPrescWritten = s.resPrescWritten := rfl
@[simp] theorem markReleased_power_resSnap (s : State) : (markReleased .power s).resSnap = s.resSnap := rfl
@[simp] theorem markReleased_power_resSnapWritten (s : State) : (markReleased .power s).resSnapWritten = s.resSnapWritten := rfl
@[simp] theorem markReleased_power_snap (s : State) : (markReleased .power s).snap = s.snap := rfl
@[simp] theorem markReleased_power_clr (s : State) : (markReleased .power s).clr = s.clr := rfl
@[simp] theorem markReleased_power_handle (s : State) : (markReleased .power s).handle = s.handle := rfl
@[simp] theorem markReleased_power_mcs (s : State) : (markReleased .power s).mcs = s.mcs := rfl
@[simp] theorem markReleased_power_seq (s : State) : (markReleased .power s).seq = s.seq := rfl
@[simp] theorem markReleased_power_runActive (s : State) : (markReleased .power s).runActive = s.runActive := rfl
@[simp] theorem markReleased_power_term (s : State) : (markReleased .power s).term = s.term := rfl
@[simp] theorem markReleased_power_calAttempted (s : State) : (markReleased .power s).calAttempted = s.calAttempted := rfl
@[simp] theorem markReleased_power_err (s : State) : (markReleased .power s).err = s.err := rfl
@[simp] theorem markReleased_power_gpioSetting (s : State) : (markReleased .power s).gpioSetting = s.gpioSetting := rfl
@[simp] theorem markReleased_power_gpioPower (s : State) : (markReleased .power s).gpioPower = ⟨false, .unknown⟩ := rfl
@[simp] theorem markReleased_power_tr (s : State) : (markReleased .power s).tr = s.tr ++ [.gpioRel .power] := rfl
@[simp] theorem markReleased_power_chip (s : State) : (markReleased .power s).chip = s.chip := rfl
@[simp] theorem markReleased_power_env (s : State) : (markReleased .power s).env = s.env := rfl
@[simp] theorem markReleased_power_inbox (s : State) : (markReleased .power s).inbox = s.inbox := rfl

/-- A step's input is taken without touching anything but TERM and the inputs (log 12). -/
theorem takeInput_eq (s : State) :
    takeInput s = { s with
      term := s.term || (s.inbox.headD Input.quiet).term
      inbox := s.inbox.tail } := rfl

end Sys2Proof.Machine
end

