-- ==== Sys2Proof/Laws/Ops.lean ====
section
/-! SUPPORT. One lemma for each shared operation that says once what it can do: with an `ok` answer, with a
`fail` answer, and whatever the answer; what it leaves unchanged; where it completes. -/
namespace Sys2Proof.Machine

section draws
variable {α : Type} {p : α → Bool} {d : Draws α}

theorem all_head (h : d.all p = true) : p d.head = true := by
  obtain ⟨q, r⟩ := d
  simp only [Draws.all, Bool.and_eq_true] at h
  cases q with
  | nil => exact h.2
  | cons x xs => exact List.all_eq_true.1 h.1 x List.mem_cons_self

theorem all_drop (h : d.all p = true) (n : Nat) : (d.drop n).all p = true := by
  simp only [Draws.all, Draws.drop, Bool.and_eq_true] at h ⊢
  exact ⟨List.all_eq_true.2 fun x hx => List.all_eq_true.1 h.1 x (List.mem_of_mem_drop hx), h.2⟩

theorem tail_eq_drop (d : Draws α) : d.tail = d.drop 1 := by
  simp [Draws.tail, Draws.drop]

@[simp] theorem drop_drop (d : Draws α) (m n : Nat) : (d.drop m).drop n = d.drop (m + n) := by
  simp [Draws.drop]

@[simp] theorem drop_zero (d : Draws α) : d.drop 0 = d := by
  simp [Draws.drop]

@[simp] theorem drop_rest (d : Draws α) (n : Nat) : (d.drop n).rest = d.rest := rfl

end draws

section env
variable {e : Env}

@[simp] theorem dropBus_gpio (n : Nat) : (e.dropBus n).gpio = e.gpio := rfl
@[simp] theorem dropBus_bus (n : Nat) : (e.dropBus n).bus = e.bus.drop n := rfl
@[simp] theorem dropBus_sensor (n : Nat) : (e.dropBus n).sensor = e.sensor := rfl
@[simp] theorem dropBus_shm (n : Nat) : (e.dropBus n).shm = e.shm := rfl
@[simp] theorem dropBus_busOpen (n : Nat) : (e.dropBus n).busOpen = e.busOpen := rfl
@[simp] theorem dropBus_storage (n : Nat) : (e.dropBus n).storage = e.storage := rfl
@[simp] theorem dropBus_release (n : Nat) : (e.dropBus n).release = e.release := rfl
@[simp] theorem dropGpio_release (n : Nat) : (e.dropGpio n).release = e.release := rfl
@[simp] theorem dropRelease_release (n : Nat) : (e.dropRelease n).release = e.release.drop n := rfl
@[simp] theorem dropRelease_bus (n : Nat) : (e.dropRelease n).bus = e.bus := rfl
@[simp] theorem dropRelease_gpio (n : Nat) : (e.dropRelease n).gpio = e.gpio := rfl
@[simp] theorem dropRelease_sensor (n : Nat) : (e.dropRelease n).sensor = e.sensor := rfl
@[simp] theorem dropRelease_shm (n : Nat) : (e.dropRelease n).shm = e.shm := rfl
@[simp] theorem dropGpio_gpio (n : Nat) : (e.dropGpio n).gpio = e.gpio.drop n := rfl
@[simp] theorem dropGpio_bus (n : Nat) : (e.dropGpio n).bus = e.bus := rfl
@[simp] theorem dropGpio_sensor (n : Nat) : (e.dropGpio n).sensor = e.sensor := rfl
@[simp] theorem dropGpio_shm (n : Nat) : (e.dropGpio n).shm = e.shm := rfl

@[simp] theorem dropBus_dropBus (m n : Nat) : (e.dropBus m).dropBus n = e.dropBus (m + n) := by
  simp [Env.dropBus]
@[simp] theorem dropGpio_dropGpio (m n : Nat) : (e.dropGpio m).dropGpio n = e.dropGpio (m + n) := by
  simp [Env.dropGpio]
@[simp] theorem dropRelease_dropRelease (m n : Nat) :
    (e.dropRelease m).dropRelease n = e.dropRelease (m + n) := by
  simp [Env.dropRelease]
@[simp] theorem dropRelease_zero : e.dropRelease 0 = e := by simp [Env.dropRelease]
theorem dropGpio_dropBus (m n : Nat) : (e.dropGpio m).dropBus n = (e.dropBus n).dropGpio m := rfl
@[simp] theorem dropBus_zero : e.dropBus 0 = e := by simp [Env.dropBus]
@[simp] theorem dropGpio_zero : e.dropGpio 0 = e := by simp [Env.dropGpio]
theorem busTail_eq : ({ e with bus := e.bus.tail } : Env) = e.dropBus 1 := by
  simp [Env.dropBus, tail_eq_drop]
theorem gpioTail_eq : ({ e with gpio := e.gpio.tail } : Env) = e.dropGpio 1 := by
  simp [Env.dropGpio, tail_eq_drop]

theorem releaseTail_eq : ({ e with release := e.release.tail } : Env) = e.dropRelease 1 := by
  simp [Env.dropRelease, tail_eq_drop]

theorem releasesFor_succ (n : Nat) :
    e.releasesFor (n + 1) = true ↔ e.release.head = .got () ∧ (e.dropRelease 1).releasesFor n = true := by
  simp [Env.releasesFor]

theorem busOkFor_succ (n : Nat) :
    e.busOkFor (n + 1) = true ↔ e.bus.head = .got .ok ∧ (e.dropBus 1).busOkFor n = true := by
  simp [Env.busOkFor]

theorem gpioOkFor_succ (n : Nat) :
    e.gpioOkFor (n + 1) = true ↔ e.gpio.head = .got true ∧ (e.dropGpio 1).gpioOkFor n = true := by
  simp [Env.gpioOkFor]

/-- Of `m + n` good transfers, the first `m` and the `n` after them are good. -/
theorem busOkFor_add (m n : Nat) :
    e.busOkFor (m + n) = true ↔ e.busOkFor m = true ∧ (e.dropBus m).busOkFor n = true := by
  induction m generalizing e with
  | zero => simp [Env.busOkFor]
  | succ m ih =>
    rw [Nat.succ_add, busOkFor_succ, busOkFor_succ, ih, dropBus_dropBus, Nat.add_comm 1 m, and_assoc]

theorem busOkFor_mono {m n : Nat} (hmn : m ≤ n) (h : e.busOkFor n = true) : e.busOkFor m = true := by
  obtain ⟨k, rfl⟩ := Nat.exists_eq_add_of_le hmn
  exact ((busOkFor_add m k).1 h).1

/-- Whether transfers succeed rests on the bus's answers alone. -/
theorem busOkFor_congr {e' : Env} (n : Nat) (h : e.bus = e'.bus) : e.busOkFor n = e'.busOkFor n := by
  induction n generalizing e e' with
  | zero => rfl
  | succ n ih => simp only [Env.busOkFor, h]; rw [ih (e' := e'.dropBus 1) (by simp [h])]

theorem gpioOkFor_congr {e' : Env} (n : Nat) (h : e.gpio = e'.gpio) : e.gpioOkFor n = e'.gpioOkFor n := by
  induction n generalizing e e' with
  | zero => rfl
  | succ n ih => simp only [Env.gpioOkFor, h]; rw [ih (e' := e'.dropGpio 1) (by simp [h])]

theorem responsive_iff : e.responsive = true ↔
    e.bus.all Reply.comes = true ∧ e.gpio.all Reply.comes = true ∧ e.release.all Reply.comes = true ∧
      e.sensor.all Reply.comes = true ∧ e.shm.all Reply.comes = true := by
  simp [Env.responsive, and_assoc]

theorem responsive_bus (h : e.responsive = true) : ∃ r, e.bus.head = .got r := by
  have := all_head (responsive_iff.1 h).1
  cases hr : e.bus.head with
  | got r => exact ⟨r, rfl⟩
  | hang => simp [hr, Reply.comes] at this

theorem responsive_gpio (h : e.responsive = true) : ∃ r, e.gpio.head = .got r := by
  have := all_head (responsive_iff.1 h).2.1
  cases hr : e.gpio.head with
  | got r => exact ⟨r, rfl⟩
  | hang => simp [hr, Reply.comes] at this

theorem responsive_release (h : e.responsive = true) : e.release.head = .got () := by
  have := all_head (responsive_iff.1 h).2.2.1
  cases hr : e.release.head with
  | got r => rfl
  | hang => simp [hr, Reply.comes] at this

theorem responsive_sensor (h : e.responsive = true) : ∃ r, e.sensor.head = .got r := by
  have := all_head (responsive_iff.1 h).2.2.2.1
  cases hr : e.sensor.head with
  | got r => exact ⟨r, rfl⟩
  | hang => simp [hr, Reply.comes] at this

theorem responsive_shm (h : e.responsive = true) : ∃ r, e.shm.head = .got r := by
  have := all_head (responsive_iff.1 h).2.2.2.2
  cases hr : e.shm.head with
  | got r => exact ⟨r, rfl⟩
  | hang => simp [hr, Reply.comes] at this

theorem responsive_busTail (h : e.responsive = true) : ({ e with bus := e.bus.tail } : Env).responsive = true := by
  rw [responsive_iff] at h ⊢
  exact ⟨by rw [tail_eq_drop]; exact all_drop h.1 1, h.2⟩

theorem responsive_gpioTail (h : e.responsive = true) :
    ({ e with gpio := e.gpio.tail } : Env).responsive = true := by
  rw [responsive_iff] at h ⊢
  exact ⟨h.1, by rw [tail_eq_drop]; exact all_drop h.2.1 1, h.2.2⟩

theorem responsive_releaseTail (h : e.responsive = true) :
    ({ e with release := e.release.tail } : Env).responsive = true := by
  rw [responsive_iff] at h ⊢
  exact ⟨h.1, h.2.1, by rw [tail_eq_drop]; exact all_drop h.2.2.1 1, h.2.2.2⟩

/-- Where every answer comes, so do the next `n` releases. -/
theorem responsive_releasesFor (h : e.responsive = true) (n : Nat) : e.releasesFor n = true := by
  induction n generalizing e with
  | zero => rfl
  | succ n ih =>
    refine (releasesFor_succ n).2 ⟨responsive_release h, ih ?_⟩
    rw [← releaseTail_eq]
    exact responsive_releaseTail h

theorem responsive_sensorTail (h : e.responsive = true) :
    ({ e with sensor := e.sensor.tail } : Env).responsive = true := by
  rw [responsive_iff] at h ⊢
  exact ⟨h.1, h.2.1, h.2.2.1, by rw [tail_eq_drop]; exact all_drop h.2.2.2.1 1, h.2.2.2.2⟩

theorem responsive_shmTail (h : e.responsive = true) :
    ({ e with shm := e.shm.tail } : Env).responsive = true := by
  rw [responsive_iff] at h ⊢
  exact ⟨h.1, h.2.1, h.2.2.1, h.2.2.2.1, by rw [tail_eq_drop]; exact all_drop h.2.2.2.2 1⟩

end env

/-! ### What the bus actions may touch -/

/-- `t` differs from `s` at most in the answers of the bus, the chip, the trace and ERR. -/
def BusOnly (s t : State) : Prop :=
  t = { s with env := { s.env with bus := t.env.bus }, chip := t.chip, tr := t.tr, err := t.err }

theorem BusOnly.refl (s : State) : BusOnly s s := rfl

theorem BusOnly.trans {s t u : State} (h : BusOnly s t) (h' : BusOnly t u) : BusOnly s u := by
  unfold BusOnly at *
  rw [h'] ; rw [h]

theorem BusOnly.cfg {s t : State} (h : BusOnly s t) : t.cfg = s.cfg := by
  unfold BusOnly at h; rw [h]

theorem BusOnly.handle {s t : State} (h : BusOnly s t) : t.handle = s.handle := by
  unfold BusOnly at h; rw [h]

theorem BusOnly.mcs {s t : State} (h : BusOnly s t) : t.mcs = s.mcs := by
  unfold BusOnly at h; rw [h]

theorem BusOnly.seq {s t : State} (h : BusOnly s t) : t.seq = s.seq := by
  unfold BusOnly at h; rw [h]

theorem BusOnly.gpioSetting {s t : State} (h : BusOnly s t) : t.gpioSetting = s.gpioSetting := by
  unfold BusOnly at h; rw [h]

theorem BusOnly.gpioPower {s t : State} (h : BusOnly s t) : t.gpioPower = s.gpioPower := by
  unfold BusOnly at h; rw [h]

theorem BusOnly.calAttempted {s t : State} (h : BusOnly s t) : t.calAttempted = s.calAttempted := by
  unfold BusOnly at h; rw [h]

theorem BusOnly.runActive {s t : State} (h : BusOnly s t) : t.runActive = s.runActive := by
  unfold BusOnly at h; rw [h]

theorem BusOnly.resSnap {s t : State} (h : BusOnly s t) : t.resSnap = s.resSnap := by
  unfold BusOnly at h; rw [h]

theorem BusOnly.emit (e : Event) (s : State) : BusOnly s (emit e s) := rfl

theorem BusOnly.setErr (k : ErrKind) (n : BitVec 16) (s : State) : BusOnly s (setErr k n s) := rfl

/-! ### One bus transfer -/

/-- What a write transfer can do: it stops the machine, or it takes one answer, lets what arrived reach
the chip and appends one event (20_memory.md R62). It raises nothing. -/
theorem busWrite_cases (a : BusAddr) (bytes : List Byte) (s : State) :
    (∃ f, busWrite a bytes s = .stopped f) ∨
      ∃ r chip, s.env.bus.head = .got r ∧ s.chip.receive s.cfg a (r.arrived bytes) = some chip ∧
        busWrite a bytes s = .done r.isOk (emit (.busW a bytes r.isOk)
          { s with env := { s.env with bus := s.env.bus.tail }, chip := chip }) := by
  unfold busWrite
  split
  · exact .inl ⟨_, rfl⟩
  · rename_i r hr
    split
    · exact .inl ⟨_, rfl⟩
    · rename_i chip hc
      exact .inr ⟨r, chip, hr, hc, rfl⟩

theorem busWrite_busOnly (a : BusAddr) (bytes : List Byte) (s : State) :
    (busWrite a bytes s).Holds (fun _ t => BusOnly s t) (fun _ t => BusOnly s t) := by
  rcases busWrite_cases a bytes s with ⟨f, h⟩ | ⟨r, chip, -, -, h⟩ <;> rw [h]
  · trivial
  · rfl

theorem busRead_cases (r : Byte) (s : State) :
    (∃ f, busRead r s = .stopped f) ∨
      (s.env.bus.head = .got .ok ∧ busRead r s = .done (some (s.chip.load s.cfg r))
        (emit (.busR s.cfg.devAddr 1 (some [s.chip.load s.cfg r]))
          { s with env := { s.env with bus := s.env.bus.tail } })) ∨
      ((∃ n, s.env.bus.head = .got (.fail n)) ∧ busRead r s = .done none
        (emit (.busR s.cfg.devAddr 1 none)
          { s with env := { s.env with bus := s.env.bus.tail } })) := by
  unfold busRead
  split
  · exact .inl ⟨_, rfl⟩
  · exact .inr (.inl ⟨‹_›, rfl⟩)
  · exact .inr (.inr ⟨⟨_, ‹_›⟩, rfl⟩)

theorem busRead_busOnly (r : Byte) (s : State) :
    (busRead r s).Holds (fun _ t => BusOnly s t) (fun _ t => BusOnly s t) := by
  rcases busRead_cases r s with ⟨f, h⟩ | ⟨-, h⟩ | ⟨-, h⟩ <;> rw [h]
  · trivial
  · rfl
  · rfl

/-! ### REGWR -/

/-- A completed REGWR of a register other than PRESCALE (20_memory.md R64). -/
theorem regWrite_ok {r v : Byte} {s : State} (hw : s.cfg.wf = true) (hr : r ≠ regPrescale)
    (hb : s.env.bus.head = .got .ok) :
    regWrite r v s = .done () (emit (.busW s.cfg.devAddr [r, v] true) { s with
      env := s.env.dropBus 1
      chip := s.chip.withReg r v }) := by
  simp [regWrite, busWrite, hb, TransferResult.arrived, receive_write hw, store_register hr,
    TransferResult.isOk, busTail_eq]

/-- A completed REGWR of PRESCALE in low-power mode (20_memory.md R64). -/
theorem regWrite_prescale_ok {v : Byte} {s : State} (hw : s.cfg.wf = true)
    (hl : s.chip.lowPower s.cfg = some true) (hb : s.env.bus.head = .got .ok) :
    regWrite regPrescale v s = .done () (emit (.busW s.cfg.devAddr [regPrescale, v] true) { s with
      env := s.env.dropBus 1
      chip := s.chip.withReg regPrescale v }) := by
  simp [regWrite, busWrite, hb, TransferResult.arrived, receive_write hw, store_prescale hl,
    TransferResult.isOk, busTail_eq]

/-- A REGWR that fails: BusTransferError with phase 0 and the register; the register is new only if both
bytes had arrived (20_memory.md R62, R64). -/
theorem regWrite_fail {r v : Byte} {s : State} {n : Nat} (hw : s.cfg.wf = true) (hr : r ≠ regPrescale)
    (hb : s.env.bus.head = .got (.fail n)) :
    regWrite r v s = .raised ⟨.busTransfer, infoWord 0x00 r⟩
      (setErr .busTransfer (infoWord 0x00 r) (emit (.busW s.cfg.devAddr [r, v] false) { s with
        env := s.env.dropBus 1
        chip := if 2 ≤ n then s.chip.withReg r v else s.chip })) := by
  by_cases hn : 2 ≤ n
  · have ht : List.take n [r, v] = [r, v] := List.take_of_length_le (by simpa using hn)
    simp [regWrite, busWrite, hb, TransferResult.arrived, ht, receive_write hw, store_register hr,
      TransferResult.isOk, hn, busTail_eq]
  · have ht : (List.take n [r, v]).length ≤ 1 := by simp; omega
    simp [regWrite, busWrite, hb, TransferResult.arrived, receive_short hw ht, TransferResult.isOk, hn,
      busTail_eq]

theorem regWrite_busOnly (r v : Byte) (s : State) :
    (regWrite r v s).Holds (fun _ t => BusOnly s t) (fun _ t => BusOnly s t) := by
  refine holds_andThen (busWrite_busOnly _ _ s) fun ok t ht => ?_
  split
  · exact ht
  · exact BusOnly.trans ht (BusOnly.setErr _ _ _)

/-! ### The invariants of the chip and of the environment, for every bus action -/

/-- What a property of the state must satisfy to be kept by every bus transfer. -/
structure BusKept (P : State → Prop) : Prop where
  write : ∀ (s : State) a bytes r chip, P s → s.env.bus.head = .got r →
    s.chip.receive s.cfg a (r.arrived bytes) = some chip →
    P (emit (.busW a bytes r.isOk) { s with env := { s.env with bus := s.env.bus.tail }, chip := chip })
  read : ∀ (s : State) r, P s → s.env.bus.head = .got .ok →
    P (emit (.busR s.cfg.devAddr 1 (some [s.chip.load s.cfg r]))
      { s with env := { s.env with bus := s.env.bus.tail } })
  readFail : ∀ (s : State) n, P s → s.env.bus.head = .got (.fail n) →
    P (emit (.busR s.cfg.devAddr 1 none) { s with env := { s.env with bus := s.env.bus.tail } })
  raise : ∀ (s : State) k n, P s → P (setErr k n s)

section kept
variable {P : State → Prop} (hP : BusKept P)
include hP

theorem busWrite_keeps (a : BusAddr) (bytes : List Byte) (s : State) (hs : P s) :
    (busWrite a bytes s).Holds (fun _ t => P t) (fun _ t => P t) := by
  rcases busWrite_cases a bytes s with ⟨f, h⟩ | ⟨r, chip, hr, hc, h⟩ <;> rw [h]
  · trivial
  · exact hP.write s a bytes r chip hs hr hc

theorem busRead_keeps (r : Byte) (s : State) (hs : P s) :
    (busRead r s).Holds (fun _ t => P t) (fun _ t => P t) := by
  rcases busRead_cases r s with ⟨f, h⟩ | ⟨hr, h⟩ | ⟨⟨n, hr⟩, h⟩ <;> rw [h]
  · trivial
  · exact hP.read s r hs hr
  · exact hP.readFail s n hs hr

theorem regWrite_keeps (r v : Byte) (s : State) (hs : P s) :
    (regWrite r v s).Holds (fun _ t => P t) (fun _ t => P t) := by
  refine holds_andThen (busWrite_keeps hP _ _ s hs) fun ok t ht => ?_
  split
  · exact ht
  · exact hP.raise t _ _ ht

theorem regRead_keeps (r : Byte) (s : State) (hs : P s) :
    (regRead r s).Holds (fun _ t => P t) (fun _ t => P t) := by
  refine holds_andThen (busWrite_keeps hP _ _ s hs) fun ok t ht => ?_
  split
  · refine holds_andThen (busRead_keeps hP r t ht) fun v u hu => ?_
    split
    · exact hu
    · exact hP.raise u _ _ hu
  · exact hP.raise t _ _ ht

theorem swrst_keeps (s : State) (hs : P s) :
    (swrst s).Holds (fun _ t => P t) (fun _ t => P t) := by
  refine holds_andThen (busWrite_keeps hP _ _ s hs) fun ok t ht => ?_
  split
  · exact ht
  · exact hP.raise t _ _ ht

theorem writeChannel_keeps (c : Channel) (d : Duty) (s : State) (hs : P s) :
    (writeChannel c d s).Holds (fun _ t => P t) (fun _ t => P t) := by
  refine holds_runSteps (P := P) (fun a ha t ht => ?_) s hs
  obtain ⟨x, -, rfl⟩ := List.mem_map.1 ha
  exact regWrite_keeps hP _ _ t ht

theorem readRegs_keeps (rs : List Byte) (s : State) (hs : P s) :
    (readRegs rs s).Holds (fun _ t => P t) (fun _ t => P t) := by
  induction rs generalizing s with
  | nil => exact hs
  | cons r rest ih =>
    exact holds_andThen (regRead_keeps hP r s hs) fun b t ht =>
      holds_andThen (ih t ht) fun bs u hu => hu

end kept

/-- The chip's form is kept by every bus transfer. -/
theorem chipWf_kept : BusKept fun s => s.chip.wf = true where
  write _ _ _ _ _ h _ hc := receive_wf h hc
  read _ _ h _ := h
  readFail _ _ h _ := h
  raise _ _ _ h := h

/-- The configuration and the progress assumptions are kept by every bus transfer. -/
theorem responsive_kept (cfg : Config) :
    BusKept fun s => s.cfg = cfg ∧ s.env.responsive = true where
  write _ _ _ _ _ h _ _ := ⟨h.1, responsive_busTail h.2⟩
  read _ _ h _ := ⟨h.1, responsive_busTail h.2⟩
  readFail _ _ h _ := ⟨h.1, responsive_busTail h.2⟩
  raise _ _ _ h := h

/-- Whether the low-power state is known is kept by every bus transfer. -/
theorem lowPowerKnown_kept : BusKept fun s => (s.chip.lowPower s.cfg).isSome = true where
  write _ _ _ _ _ h _ hc := receive_lowPower h hc
  read _ _ h _ := h
  readFail _ _ h _ := h
  raise _ _ _ h := h

/-- What differs from a state at most in the bus's answers, the chip, the trace and ERR. -/
theorem busOnly_kept (s₀ : State) : BusKept fun s => BusOnly s₀ s where
  write _ _ _ _ _ h _ _ := h.trans rfl
  read _ _ h _ := h.trans rfl
  readFail _ _ h _ := h.trans rfl
  raise _ _ _ h := h.trans rfl

/-! ### Where a bus action completes -/

theorem busWrite_completes {a : BusAddr} {bytes : List Byte} {s : State} (hr : s.env.responsive = true)
    (hc : ∀ bs, bs.length ≤ bytes.length → (∀ b, bs.head? = some b → bytes.head? = some b) →
      s.chip.receive s.cfg a bs ≠ none) : (busWrite a bytes s).Completes := by
  obtain ⟨r, hr⟩ := responsive_bus hr
  have harr : s.chip.receive s.cfg a (r.arrived bytes) ≠ none := by
    cases r with
    | ok => exact hc bytes le_rfl fun _ h => h
    | fail n =>
      refine hc _ (List.length_take_le' n bytes) fun b hb => ?_
      cases n with
      | zero => simp [TransferResult.arrived] at hb
      | succ n => cases bytes <;> simp_all [TransferResult.arrived]
  unfold busWrite
  rw [hr]
  cases hrec : s.chip.receive s.cfg a (r.arrived bytes) with
  | none => exact absurd hrec harr
  | some chip => simp [hrec]

theorem regWrite_completes {r v : Byte} {s : State} (hw : s.cfg.wf = true)
    (hr : s.env.responsive = true) (hp : r ≠ regPrescale) : (regWrite r v s).Completes := by
  obtain ⟨x, hx⟩ := responsive_bus hr
  cases x with
  | ok => rw [regWrite_ok hw hp hx]; trivial
  | fail n => rw [regWrite_fail hw hp hx]; trivial

theorem writeChannel_completes {c : Channel} {d : Duty} {s : State} (hw : s.cfg.wf = true)
    (hr : s.env.responsive = true) : (writeChannel c d s).Completes := by
  refine completes_runSteps (P := fun t => t.cfg = s.cfg ∧ t.env.responsive = true)
    (fun a ha t ht => ?_) (fun a ha t ht => ?_) s ⟨rfl, hr⟩
  · obtain ⟨x, -, rfl⟩ := List.mem_map.1 ha
    exact regWrite_keeps (responsive_kept s.cfg) _ _ t ht
  · obtain ⟨x, -, rfl⟩ := List.mem_map.1 ha
    exact regWrite_completes (by rw [ht.1]; exact hw) ht.2 (edgeAddr_ne_prescale hw c x)

/-! ### SWRST -/

/-- A completed SWRST (20_memory.md R66, R71(a)). -/
theorem swrst_ok {s : State} (hb : s.env.bus.head = .got .ok) :
    swrst s = .done () (emit (.busW s.cfg.swrstAddr [s.cfg.swrstByte] true) { s with
      env := s.env.dropBus 1
      chip := s.chip.softwareReset }) := by
  simp [swrst, busWrite, hb, TransferResult.arrived, TransferResult.isOk, busTail_eq]

/-- A SWRST that fails: ResetError; the chip is reset only if the byte had arrived (20_memory.md R62,
R66). -/
theorem swrst_fail {s : State} {n : Nat} (hb : s.env.bus.head = .got (.fail n)) :
    swrst s = .raised ⟨.reset, infoWord 0x00 0x00⟩
      (setErr .reset (infoWord 0x00 0x00) (emit (.busW s.cfg.swrstAddr [s.cfg.swrstByte] false) { s with
        env := s.env.dropBus 1
        chip := if 1 ≤ n then s.chip.softwareReset else s.chip })) := by
  cases n with
  | zero =>
    simp [swrst, busWrite, hb, TransferResult.arrived, TransferResult.isOk, busTail_eq, receive_swrst_nil]
  | succ n =>
    simp [swrst, busWrite, hb, TransferResult.arrived, TransferResult.isOk, busTail_eq]

theorem swrst_completes {s : State} (hr : s.env.responsive = true) : (swrst s).Completes := by
  obtain ⟨x, hx⟩ := responsive_bus hr
  cases x with
  | ok => rw [swrst_ok hx]; trivial
  | fail n => rw [swrst_fail hx]; trivial

/-! ### REGRD -/

/-- A completed REGRD of a register that holds a byte (20_memory.md R65). -/
theorem regRead_ok {r : Byte} {s : State} (hw : s.cfg.wf = true) (h1 : s.env.bus.head = .got .ok)
    (h2 : s.env.bus.tail.head = .got .ok) :
    regRead r s = .done (s.chip.load s.cfg r)
      (emit (.busR s.cfg.devAddr 1 (some [s.chip.load s.cfg r]))
        (emit (.busW s.cfg.devAddr [r] true) { s with env := s.env.dropBus 2 })) := by
  rw [tail_eq_drop] at h2
  simp [regRead, busWrite, busRead, h1, h2, TransferResult.arrived, receive_short hw,
    TransferResult.isOk, emit, Env.dropBus, tail_eq_drop]

/-- A REGRD whose address-set phase fails: phase 1, no second transfer, the chip unchanged
(20_memory.md R65). -/
theorem regRead_addressFail {r : Byte} {s : State} {n : Nat} (hw : s.cfg.wf = true)
    (h1 : s.env.bus.head = .got (.fail n)) :
    regRead r s = .raised ⟨.busTransfer, infoWord 0x01 r⟩
      (setErr .busTransfer (infoWord 0x01 r) (emit (.busW s.cfg.devAddr [r] false) { s with
        env := s.env.dropBus 1 })) := by
  have ht : (List.take n [r]).length ≤ 1 := by simp
  simp [regRead, busWrite, h1, TransferResult.arrived, receive_short hw ht, TransferResult.isOk, busTail_eq]

/-- A REGRD whose data phase fails: phase 2 (20_memory.md R65). -/
theorem regRead_dataFail {r : Byte} {s : State} {n : Nat} (hw : s.cfg.wf = true)
    (h1 : s.env.bus.head = .got .ok) (h2 : s.env.bus.tail.head = .got (.fail n)) :
    regRead r s = .raised ⟨.busTransfer, infoWord 0x02 r⟩
      (setErr .busTransfer (infoWord 0x02 r) (emit (.busR s.cfg.devAddr 1 none)
        (emit (.busW s.cfg.devAddr [r] true) { s with env := s.env.dropBus 2 }))) := by
  rw [tail_eq_drop] at h2
  simp [regRead, busWrite, busRead, h1, h2, TransferResult.arrived, receive_short hw,
    TransferResult.isOk, emit, Env.dropBus, tail_eq_drop]

theorem regRead_completes {r : Byte} {s : State} (hw : s.cfg.wf = true)
    (hr : s.env.responsive = true) : (regRead r s).Completes := by
  obtain ⟨x, hx⟩ := responsive_bus hr
  cases x with
  | fail n => rw [regRead_addressFail hw hx]; trivial
  | ok =>
    obtain ⟨y, hy⟩ := responsive_bus (responsive_busTail hr)
    cases y with
    | ok => rw [regRead_ok hw hx hy]; trivial
    | fail n => rw [regRead_dataFail hw hx hy]; trivial

/-! ### GPIO -/

/-- A GpioRequest that answers `ok` (20_memory.md R76, 10_state.md R30). -/
theorem gpioRequest_ok {n : Byte} {l : Line} {s : State} (h : s.env.gpio.head = .got true) :
    gpioRequest n l s = .done () (emit (.gpioReq l true)
      (setGpioLine l ⟨true, .unknown⟩ { s with env := s.env.dropGpio 1 })) := by
  cases l <;> simp [gpioRequest, gpioAnswer, h, gpioTail_eq]

/-- A GpioRequest that fails: CalibrationAbortedError with the transition and the line (60_exceptions.md
R271). -/
theorem gpioRequest_fail {n : Byte} {l : Line} {s : State} (h : s.env.gpio.head = .got false) :
    gpioRequest n l s = .raised ⟨.calibrationAborted, infoWord n (lineCode l)⟩
      (setErr .calibrationAborted (infoWord n (lineCode l)) (emit (.gpioReq l false)
        (setGpioLine l ⟨(gpioLine l s).held, .unknown⟩ { s with env := s.env.dropGpio 1 }))) := by
  cases l <;> simp [gpioRequest, gpioAnswer, h, gpioTail_eq]

/-- A GpioWrite that answers `ok` (20_memory.md R76, R77). -/
theorem gpioWrite_ok {n : Byte} {l : Line} {high : Bool} {s : State} (h : s.env.gpio.head = .got true) :
    gpioWrite n l high s = .done () (emit (.gpioSet l high true)
      (setGpioLine l { gpioLine l s with level := if high then .high else .low }
        { s with env := s.env.dropGpio 1 })) := by
  cases l <;> simp [gpioWrite, gpioAnswer, h, gpioTail_eq]

/-- A GpioWrite that fails: CalibrationAbortedError with the transition and the line (42_motor_
calibration.md R208). -/
theorem gpioWrite_fail {n : Byte} {l : Line} {high : Bool} {s : State}
    (h : s.env.gpio.head = .got false) :
    gpioWrite n l high s = .raised ⟨.calibrationAborted, infoWord n (lineCode l)⟩
      (setErr .calibrationAborted (infoWord n (lineCode l)) (emit (.gpioSet l high false)
        { s with env := s.env.dropGpio 1 })) := by
  cases l <;> simp [gpioWrite, gpioAnswer, h, gpioTail_eq]

theorem gpioRequest_completes {n : Byte} {l : Line} {s : State} (hr : s.env.responsive = true) :
    (gpioRequest n l s).Completes := by
  obtain ⟨x, hx⟩ := responsive_gpio hr
  cases x
  · rw [gpioRequest_fail hx]; trivial
  · rw [gpioRequest_ok hx]; trivial

theorem gpioWrite_completes {n : Byte} {l : Line} {high : Bool} {s : State}
    (hr : s.env.responsive = true) : (gpioWrite n l high s).Completes := by
  obtain ⟨x, hx⟩ := responsive_gpio hr
  cases x
  · rw [gpioWrite_fail hx]; trivial
  · rw [gpioWrite_ok hx]; trivial

/-- A GpioRelease that returns (20_memory.md R76, R77). -/
theorem gpioRelease_returns {l : Line} {s : State} (h : s.env.release.head = .got ()) :
    gpioRelease l s = .done () (markReleased l { s with env := s.env.dropRelease 1 }) := by
  simp [gpioRelease, h, releaseTail_eq]

/-- A GpioRelease that never returns (70_reset_and_hazards.md R333). -/
theorem gpioRelease_hangs {l : Line} {s : State} (h : s.env.release.head = .hang) :
    gpioRelease l s = .stopped (.blocked .gpio) := by
  simp [gpioRelease, h]

/-- The release of the held lines, where each release returns: neither line held, one event for each line
held before, SETTING first (42_motor_calibration.md R208, 43_control_loop.md R240). -/
theorem releaseHeldLines_returns {s : State} (h : s.env.releasesFor (heldLines s) = true) :
    releaseHeldLines s = .done () { s with
      gpioSetting := releasedLine s.gpioSetting
      gpioPower := releasedLine s.gpioPower
      tr := s.tr ++ releaseEvents s
      env := s.env.dropRelease (heldLines s) } := by
  cases hs : s.gpioSetting.held <;> cases hp : s.gpioPower.held <;>
    simp only [heldLines, hs, hp, Bool.toNat_false, Bool.toNat_true, Nat.add_zero, Nat.zero_add,
      Nat.reduceAdd, releasesFor_succ, dropRelease_release] at h <;>
    simp [releaseHeldLines, releaseIfHeld, gpioLine, gpioRelease, releasedLine, releaseEvents, heldLines,
      hs, hp, h, releaseTail_eq, markReleased, setGpioLine, emit]

/-- Where a release of a held line never returns the block is stuck (70_reset_and_hazards.md R333). -/
theorem releaseHeldLines_hangs {s : State} {n : Nat} (hn : n < heldLines s)
    (h : s.env.releaseHangsAt n = true) : releaseHeldLines s = .stopped (.blocked .gpio) := by
  cases hs : s.gpioSetting.held <;> cases hp : s.gpioPower.held <;>
    simp only [heldLines, hs, hp, Bool.toNat_false, Bool.toNat_true] at hn <;>
    rcases n with _ | _ | n <;>
    simp [Env.releaseHangsAt, Env.releasesFor] at h <;>
    simp_all [releaseHeldLines, releaseIfHeld, gpioLine, gpioRelease, releaseTail_eq, markReleased,
      setGpioLine, emit]

theorem releaseHeldLines_completes {s : State} (hr : s.env.responsive = true) :
    (releaseHeldLines s).Completes := by
  rw [releaseHeldLines_returns (responsive_releasesFor hr _)]
  trivial

/-! ### The sensor, the snapshot, the bus's opening, the mapper -/

theorem senseClearance_got {s : State} {r : F64} (h : s.env.sensor.head = .got r) :
    senseClearance s = .done () (emit (.sense r)
      { s with clr := r, env := { s.env with sensor := s.env.sensor.tail } }) := by
  simp [senseClearance, h]

theorem copySnapshot_got {s : State} {snap : Snapshot} (h : s.env.shm.head = .got snap) :
    copySnapshot s = .done () (emit .semRel (emit .semAcq
      { s with snap := snap, env := { s.env with shm := s.env.shm.tail } })) := by
  simp [copySnapshot, h]

theorem busOpen_some {s : State} {conn : Nat} (h : s.env.busOpen.head = some conn) :
    busOpen s = .done conn (emit (.busOpen true)
      { s with env := { s.env with busOpen := s.env.busOpen.tail } }) := by
  simp [busOpen, h]

theorem busOpen_none {s : State} (h : s.env.busOpen.head = none) :
    busOpen s = .raised ⟨.busTransfer, infoWord 0x03 0x00⟩
      (setErr .busTransfer (infoWord 0x03 0x00) (emit (.busOpen false)
        { s with env := { s.env with busOpen := s.env.busOpen.tail } })) := by
  simp [busOpen, h]

theorem mapChannel_some {c : Channel} {w : F32} {d : Duty} {s : State}
    (h : mapDuty (s.cfg.cal.get c) w = some d) : mapChannel c w s = .done d s := by
  simp [mapChannel, h]

theorem mapChannel_none {c : Channel} {w : F32} {s : State}
    (h : mapDuty (s.cfg.cal.get c) w = none) :
    mapChannel c w s = .raised ⟨.outOfRange, infoWord 0x01 (BitVec.ofNat 8 c.val)⟩
      (setErr .outOfRange (infoWord 0x01 (BitVec.ofNat 8 c.val)) s) := by
  simp [mapChannel, h]

/-- MAP of an entry rejects a word exactly where its range check does (41_duty_mapper.md R182, R183). -/
theorem mapDuty_isSome (entry : CalEntry) (w : F32) :
    (mapDuty entry w).isSome = (fractionOf w).isSome := by
  cases h : fractionOf w <;> simp [mapDuty, h]

end Sys2Proof.Machine
end

