-- ==== Sys2Proof/Laws/Frames.lean ====
section
/-! SUPPORT. The 136 bus frames by group: what exec does with each, and that every instruction is in a
group. -/
namespace Sys2Proof.Machine

/-- A WR row is one REGWR (30_encoding.md R106, 20_memory.md R64). -/
theorem exec_writeRow {s : State} {i : Instr} {r v : Byte} (hr : WriteRow s.cfg i r v) :
    exec i s = issueFrame (regWrite r v) s := by
  cases hr with
  | prescale p => rfl
  | mode1Wake => rfl
  | mode1Run => rfl
  | mode2 => rfl
  | edge c x d => fin_cases c <;> cases x <;> rfl

/-- An RD row is one REGRD (30_encoding.md R106, 20_memory.md R65). -/
theorem exec_readRow {s : State} {i : Instr} {r : Byte} (hr : ReadRow s.cfg i r) :
    exec i s = issueFrame (readFrame r) s := by
  cases hr with
  | mode1 => rfl
  | mode2 => rfl
  | prescale => rfl
  | edge c x => fin_cases c <;> cases x <;> rfl

/-- A frame of SWRST by itself (20_memory.md R66). -/
theorem exec_swrst (s : State) : exec .swrst s = issueFrame swrst s := rfl

/-- A frame with the handle open (log 15). -/
theorem issueFrame_some {a : Act} {s : State} {h : Handle} (hh : s.handle = some h) :
    issueFrame a s = (a s).outcome := by
  rw [issueFrame, needHandle_some _ _ h hh]

/-- A frame without a handle: ERR only (log 15, 40_register_protocol.md R140(d)). -/
theorem issueFrame_none {a : Act} {s : State} (hh : s.handle = none) :
    issueFrame a s = .next (setErr .busTransfer (infoWord 0x03 0x00) s) := by
  rw [issueFrame, needHandle_none _ _ hh]
  rfl

/-- The operations of the command port (30_encoding.md R110). -/
def commandInstrs : List Instr :=
  [.opOpen, .opReset, .opWrch, .opRdall, .opPresc, .opMap, .opCal, .opTick, .opRun, .opShutdown]

/-- The WR row of channel `c`'s register `x`, whatever its operand. -/
theorem edge_isWriteRow (cfg : Config) (c : Channel) (x : Edge) (d : Duty) :
    ∃ r v, WriteRow cfg (edgeWriteInstr c x d) r v := ⟨_, _, .edge c x d⟩

/-- The low byte and the high nibble of a count, put together and taken apart. -/
theorem duty_low (lo : Byte) : (0#4 ++ lo : Duty).extractLsb' 0 8 = lo := by
  revert lo; decide

theorem duty_high (hi : BitVec 4) : (hi ++ 0#8 : Duty).extractLsb' 8 4 = hi := by
  revert hi; decide

/-- Every instruction is SWRST, a WR row, an RD row or an operation. -/
theorem instr_groups (cfg : Config) (i : Instr) :
    i = .swrst ∨ (∃ r v, WriteRow cfg i r v) ∨ (∃ r, ReadRow cfg i r) ∨ i ∈ commandInstrs := by
  have hw : ∀ (c : Channel) (x : Edge) (d : Duty), i = edgeWriteInstr c x d →
      i = .swrst ∨ (∃ r v, WriteRow cfg i r v) ∨ (∃ r, ReadRow cfg i r) ∨ i ∈ commandInstrs :=
    fun c x d h => .inr (.inl ⟨_, _, h ▸ WriteRow.edge c x d⟩)
  have hr : ∀ (c : Channel) (x : Edge), i = rdEdge c x →
      i = .swrst ∨ (∃ r v, WriteRow cfg i r v) ∨ (∃ r, ReadRow cfg i r) ∨ i ∈ commandInstrs :=
    fun c x h => .inr (.inr (.inl ⟨_, h ▸ ReadRow.edge c x⟩))
  cases i
  case swrst => exact .inl rfl
  case wrPrescale p => exact .inr (.inl ⟨_, _, .prescale p⟩)
  case wrMode1Wake => exact .inr (.inl ⟨_, _, .mode1Wake⟩)
  case wrMode1Run => exact .inr (.inl ⟨_, _, .mode1Run⟩)
  case wrMode2 => exact .inr (.inl ⟨_, _, .mode2⟩)
  case rdMode1 => exact .inr (.inr (.inl ⟨_, .mode1⟩))
  case rdMode2 => exact .inr (.inr (.inl ⟨_, .mode2⟩))
  case rdPrescale => exact .inr (.inr (.inl ⟨_, .prescale⟩))
  case wrCh0OnL => exact hw 0 .onL 0 rfl
  case wrCh0OnH => exact hw 0 .onH 0 rfl
  case wrCh0OffL lo => exact hw 0 .offL (0#4 ++ lo) (congrArg _ (duty_low lo).symm)
  case wrCh0OffH hi => exact hw 0 .offH (hi ++ 0#8) (congrArg _ (duty_high hi).symm)
  case rdCh0OnL => exact hr 0 .onL rfl
  case rdCh0OnH => exact hr 0 .onH rfl
  case rdCh0OffL => exact hr 0 .offL rfl
  case rdCh0OffH => exact hr 0 .offH rfl
  case wrCh1OnL => exact hw 1 .onL 0 rfl
  case wrCh1OnH => exact hw 1 .onH 0 rfl
  case wrCh1OffL lo => exact hw 1 .offL (0#4 ++ lo) (congrArg _ (duty_low lo).symm)
  case wrCh1OffH hi => exact hw 1 .offH (hi ++ 0#8) (congrArg _ (duty_high hi).symm)
  case rdCh1OnL => exact hr 1 .onL rfl
  case rdCh1OnH => exact hr 1 .onH rfl
  case rdCh1OffL => exact hr 1 .offL rfl
  case rdCh1OffH => exact hr 1 .offH rfl
  case wrCh2OnL => exact hw 2 .onL 0 rfl
  case wrCh2OnH => exact hw 2 .onH 0 rfl
  case wrCh2OffL lo => exact hw 2 .offL (0#4 ++ lo) (congrArg _ (duty_low lo).symm)
  case wrCh2OffH hi => exact hw 2 .offH (hi ++ 0#8) (congrArg _ (duty_high hi).symm)
  case rdCh2OnL => exact hr 2 .onL rfl
  case rdCh2OnH => exact hr 2 .onH rfl
  case rdCh2OffL => exact hr 2 .offL rfl
  case rdCh2OffH => exact hr 2 .offH rfl
  case wrCh3OnL => exact hw 3 .onL 0 rfl
  case wrCh3OnH => exact hw 3 .onH 0 rfl
  case wrCh3OffL lo => exact hw 3 .offL (0#4 ++ lo) (congrArg _ (duty_low lo).symm)
  case wrCh3OffH hi => exact hw 3 .offH (hi ++ 0#8) (congrArg _ (duty_high hi).symm)
  case rdCh3OnL => exact hr 3 .onL rfl
  case rdCh3OnH => exact hr 3 .onH rfl
  case rdCh3OffL => exact hr 3 .offL rfl
  case rdCh3OffH => exact hr 3 .offH rfl
  case wrCh4OnL => exact hw 4 .onL 0 rfl
  case wrCh4OnH => exact hw 4 .onH 0 rfl
  case wrCh4OffL lo => exact hw 4 .offL (0#4 ++ lo) (congrArg _ (duty_low lo).symm)
  case wrCh4OffH hi => exact hw 4 .offH (hi ++ 0#8) (congrArg _ (duty_high hi).symm)
  case rdCh4OnL => exact hr 4 .onL rfl
  case rdCh4OnH => exact hr 4 .onH rfl
  case rdCh4OffL => exact hr 4 .offL rfl
  case rdCh4OffH => exact hr 4 .offH rfl
  case wrCh5OnL => exact hw 5 .onL 0 rfl
  case wrCh5OnH => exact hw 5 .onH 0 rfl
  case wrCh5OffL lo => exact hw 5 .offL (0#4 ++ lo) (congrArg _ (duty_low lo).symm)
  case wrCh5OffH hi => exact hw 5 .offH (hi ++ 0#8) (congrArg _ (duty_high hi).symm)
  case rdCh5OnL => exact hr 5 .onL rfl
  case rdCh5OnH => exact hr 5 .onH rfl
  case rdCh5OffL => exact hr 5 .offL rfl
  case rdCh5OffH => exact hr 5 .offH rfl
  case wrCh6OnL => exact hw 6 .onL 0 rfl
  case wrCh6OnH => exact hw 6 .onH 0 rfl
  case wrCh6OffL lo => exact hw 6 .offL (0#4 ++ lo) (congrArg _ (duty_low lo).symm)
  case wrCh6OffH hi => exact hw 6 .offH (hi ++ 0#8) (congrArg _ (duty_high hi).symm)
  case rdCh6OnL => exact hr 6 .onL rfl
  case rdCh6OnH => exact hr 6 .onH rfl
  case rdCh6OffL => exact hr 6 .offL rfl
  case rdCh6OffH => exact hr 6 .offH rfl
  case wrCh7OnL => exact hw 7 .onL 0 rfl
  case wrCh7OnH => exact hw 7 .onH 0 rfl
  case wrCh7OffL lo => exact hw 7 .offL (0#4 ++ lo) (congrArg _ (duty_low lo).symm)
  case wrCh7OffH hi => exact hw 7 .offH (hi ++ 0#8) (congrArg _ (duty_high hi).symm)
  case rdCh7OnL => exact hr 7 .onL rfl
  case rdCh7OnH => exact hr 7 .onH rfl
  case rdCh7OffL => exact hr 7 .offL rfl
  case rdCh7OffH => exact hr 7 .offH rfl
  case wrCh8OnL => exact hw 8 .onL 0 rfl
  case wrCh8OnH => exact hw 8 .onH 0 rfl
  case wrCh8OffL lo => exact hw 8 .offL (0#4 ++ lo) (congrArg _ (duty_low lo).symm)
  case wrCh8OffH hi => exact hw 8 .offH (hi ++ 0#8) (congrArg _ (duty_high hi).symm)
  case rdCh8OnL => exact hr 8 .onL rfl
  case rdCh8OnH => exact hr 8 .onH rfl
  case rdCh8OffL => exact hr 8 .offL rfl
  case rdCh8OffH => exact hr 8 .offH rfl
  case wrCh9OnL => exact hw 9 .onL 0 rfl
  case wrCh9OnH => exact hw 9 .onH 0 rfl
  case wrCh9OffL lo => exact hw 9 .offL (0#4 ++ lo) (congrArg _ (duty_low lo).symm)
  case wrCh9OffH hi => exact hw 9 .offH (hi ++ 0#8) (congrArg _ (duty_high hi).symm)
  case rdCh9OnL => exact hr 9 .onL rfl
  case rdCh9OnH => exact hr 9 .onH rfl
  case rdCh9OffL => exact hr 9 .offL rfl
  case rdCh9OffH => exact hr 9 .offH rfl
  case wrCh10OnL => exact hw 10 .onL 0 rfl
  case wrCh10OnH => exact hw 10 .onH 0 rfl
  case wrCh10OffL lo => exact hw 10 .offL (0#4 ++ lo) (congrArg _ (duty_low lo).symm)
  case wrCh10OffH hi => exact hw 10 .offH (hi ++ 0#8) (congrArg _ (duty_high hi).symm)
  case rdCh10OnL => exact hr 10 .onL rfl
  case rdCh10OnH => exact hr 10 .onH rfl
  case rdCh10OffL => exact hr 10 .offL rfl
  case rdCh10OffH => exact hr 10 .offH rfl
  case wrCh11OnL => exact hw 11 .onL 0 rfl
  case wrCh11OnH => exact hw 11 .onH 0 rfl
  case wrCh11OffL lo => exact hw 11 .offL (0#4 ++ lo) (congrArg _ (duty_low lo).symm)
  case wrCh11OffH hi => exact hw 11 .offH (hi ++ 0#8) (congrArg _ (duty_high hi).symm)
  case rdCh11OnL => exact hr 11 .onL rfl
  case rdCh11OnH => exact hr 11 .onH rfl
  case rdCh11OffL => exact hr 11 .offL rfl
  case rdCh11OffH => exact hr 11 .offH rfl
  case wrCh12OnL => exact hw 12 .onL 0 rfl
  case wrCh12OnH => exact hw 12 .onH 0 rfl
  case wrCh12OffL lo => exact hw 12 .offL (0#4 ++ lo) (congrArg _ (duty_low lo).symm)
  case wrCh12OffH hi => exact hw 12 .offH (hi ++ 0#8) (congrArg _ (duty_high hi).symm)
  case rdCh12OnL => exact hr 12 .onL rfl
  case rdCh12OnH => exact hr 12 .onH rfl
  case rdCh12OffL => exact hr 12 .offL rfl
  case rdCh12OffH => exact hr 12 .offH rfl
  case wrCh13OnL => exact hw 13 .onL 0 rfl
  case wrCh13OnH => exact hw 13 .onH 0 rfl
  case wrCh13OffL lo => exact hw 13 .offL (0#4 ++ lo) (congrArg _ (duty_low lo).symm)
  case wrCh13OffH hi => exact hw 13 .offH (hi ++ 0#8) (congrArg _ (duty_high hi).symm)
  case rdCh13OnL => exact hr 13 .onL rfl
  case rdCh13OnH => exact hr 13 .onH rfl
  case rdCh13OffL => exact hr 13 .offL rfl
  case rdCh13OffH => exact hr 13 .offH rfl
  case wrCh14OnL => exact hw 14 .onL 0 rfl
  case wrCh14OnH => exact hw 14 .onH 0 rfl
  case wrCh14OffL lo => exact hw 14 .offL (0#4 ++ lo) (congrArg _ (duty_low lo).symm)
  case wrCh14OffH hi => exact hw 14 .offH (hi ++ 0#8) (congrArg _ (duty_high hi).symm)
  case rdCh14OnL => exact hr 14 .onL rfl
  case rdCh14OnH => exact hr 14 .onH rfl
  case rdCh14OffL => exact hr 14 .offL rfl
  case rdCh14OffH => exact hr 14 .offH rfl
  case wrCh15OnL => exact hw 15 .onL 0 rfl
  case wrCh15OnH => exact hw 15 .onH 0 rfl
  case wrCh15OffL lo => exact hw 15 .offL (0#4 ++ lo) (congrArg _ (duty_low lo).symm)
  case wrCh15OffH hi => exact hw 15 .offH (hi ++ 0#8) (congrArg _ (duty_high hi).symm)
  case rdCh15OnL => exact hr 15 .onL rfl
  case rdCh15OnH => exact hr 15 .onH rfl
  case rdCh15OffL => exact hr 15 .offL rfl
  case rdCh15OffH => exact hr 15 .offH rfl
  all_goals exact .inr (.inr (.inr (by simp [commandInstrs])))

end Sys2Proof.Machine
end

