-- ==== Sys2Proof/Laws/Protocol.lean ====
section
/-! SUPPORT. The operations the Register Protocol Layer shares: the reset, the four writes of a channel, the
reads of RDALL, the control transfers. One lemma each for what they do. -/
namespace Sys2Proof.Machine

/-- The reset sequence when its frame answers `ok` (40_register_protocol.md R143). -/
theorem resetOp_ok {s : State} (hb : s.env.bus.head = .got .ok) :
    resetOp s = .done () { s with
      env := s.env.dropBus 1
      chip := s.chip.softwareReset
      tr := s.tr ++ [swrstEvent s.cfg true, .delay .settle] } := by
  simp [resetOp, swrst_ok hb, emit, swrstEvent]

/-- The reset sequence when its frame fails: no wait (40_register_protocol.md R143). -/
theorem resetOp_fail {s : State} {n : Nat} (hb : s.env.bus.head = .got (.fail n)) :
    resetOp s = .raised ⟨.reset, infoWord 0x00 0x00⟩ { s with
      err := ⟨2, 0⟩
      env := s.env.dropBus 1
      chip := if 1 ≤ n then s.chip.softwareReset else s.chip
      tr := s.tr ++ [swrstEvent s.cfg false] } := by
  simp [resetOp, swrst_fail hb, emit, swrstEvent, setErr, errCode, infoWord]

theorem resetOp_keeps {P : State → Prop} (hP : BusKept P)
    (hd : ∀ s w, P s → P (emit (.delay w) s)) (s : State) (hs : P s) :
    (resetOp s).Holds (fun _ t => P t) (fun _ t => P t) :=
  holds_andThen (swrst_keeps hP s hs) fun _ t ht => hd t .settle ht

/-- A REGWR of an edge register that answers `ok`: only the register, the trace and the answers change. -/
theorem regWrite_edge_ok {s : State} (hw : s.cfg.wf = true) (c : Channel) (x : Edge) (v : Byte)
    (hb : s.env.bus.head = .got .ok) :
    regWrite (edgeAddr s.cfg c x) v s = .done () { s with
      env := s.env.dropBus 1
      tr := s.tr ++ [regwrEvent s.cfg (edgeAddr s.cfg c x) v true]
      chip := { s.chip with regs := s.chip.regs.write (edgeAddr s.cfg c x).toNat v } } := by
  rw [regWrite_ok hw (edgeAddr_ne_prescale hw c x) hb]
  simp [emit, regwrEvent, withReg_other (edgeAddr_ne_mode1 hw c x)]

/-- The writes of a list of edge registers of one channel when each answers `ok`. -/
theorem edgeWrites_ok {cfg : Config} (hw : cfg.wf = true) (c : Channel) (d : Duty) (xs : List Edge)
    (s : State) (hc : s.cfg = cfg) (hb : s.env.busOkFor xs.length = true) :
    runSteps (xs.map fun x => regWrite (edgeAddr cfg c x) (edgeData d x)) s = .done () { s with
      env := s.env.dropBus xs.length
      tr := s.tr ++ xs.map fun x => regwrEvent cfg (edgeAddr cfg c x) (edgeData d x) true
      chip := { s.chip with
        regs := xs.foldl (fun m x => m.write (edgeAddr cfg c x).toNat (edgeData d x)) s.chip.regs } } := by
  induction xs generalizing s with
  | nil => simp
  | cons x rest ih =>
    subst hc
    rw [List.length_cons, busOkFor_succ] at hb
    rw [List.map_cons, runSteps_cons, regWrite_edge_ok hw c x _ hb.1, andThen_done]
    refine (ih _ (by rfl) (by exact hb.2)).trans ?_
    simp [Nat.add_comm]

/-- The reads of RDALL answer one byte each (40_register_protocol.md R145). -/
theorem readRegs_length (rs : List Byte) (s : State) :
    (readRegs rs s).Holds (fun bytes _ => bytes.length = rs.length) (fun _ _ => True) := by
  induction rs generalizing s with
  | nil => rfl
  | cons r rest ih =>
    have h1 : (regRead r s).Holds (fun _ _ => True) (fun _ _ => True) := by
      cases regRead r s <;> trivial
    refine holds_andThen h1 fun b t _ => ?_
    exact holds_andThen (ih t) fun bs u hu => by simpa using hu

/-- Registers read one after another, every transfer answering `ok`: what each reads as, two events each,
the chip as it was (40_register_protocol.md R145). -/
theorem readRegs_ok (rs : List Byte) (s : State) (hw : s.cfg.wf = true)
    (hb : s.env.busOkFor (2 * rs.length) = true) :
    readRegs rs s = .done (rs.map (s.chip.load s.cfg)) { s with
      env := s.env.dropBus (2 * rs.length)
      tr := s.tr ++ rs.flatMap fun r => regrdEvents s.cfg r (s.chip.load s.cfg r) } := by
  induction rs generalizing s with
  | nil => simp [readRegs]
  | cons r rest ih =>
    have hl : 2 * (r :: rest).length = 2 + 2 * rest.length := by simp; omega
    rw [hl, busOkFor_add] at hb
    have h2 := (busOkFor_succ 1).1 hb.1
    rw [readRegs, regRead_ok hw h2.1 (by rw [tail_eq_drop]; exact ((busOkFor_succ 0).1 h2.2).1),
      andThen_done]
    rw [ih _ (by simpa using hw) (by simpa [emit] using hb.2)]
    simp [emit, regrdEvents, Nat.mul_add, Nat.add_comm 2]

/-- RDALL reads 67 registers (40_register_protocol.md R145). -/
theorem readAllOrder_length (cfg : Config) : (readAllOrder cfg).length = 67 := by
  simp [readAllOrder, channels, edgeOrder]

/-- What closes the bus on a raise raises the same error (40_register_protocol.md R142). -/
theorem closeOnRaise_holds {P : State → Prop} {Q : Raise → State → Prop} {r : Res Unit}
    (h : r.Holds (fun _ s => P s) (fun e s => Q e (busClose s))) :
    (closeOnRaise r).Holds (fun _ s => P s) Q := by
  cases r <;> exact h

theorem closeOnRaise_completes {r : Res Unit} (h : r.Completes) : (closeOnRaise r).Completes := by
  cases r <;> exact h

/-- An open handle is closed with one event, and no other change (40_register_protocol.md R142). -/
theorem closeHandle_eq (s : State) :
    closeHandle s = { s with
      handle := none
      tr := s.tr ++ if s.handle.isSome then [.busClose] else [] } := by
  cases h : s.handle with
  | none => simp [closeHandle, h]; rw [← h]
  | some x => simp [closeHandle, h, busClose, emit]

/-- What an edge register of the written channel holds after a WRCH (30_encoding.md R104). -/
theorem wrchRegs_other (cfg : Config) (c : Channel) (d : Duty) (m : Memory) (a : Nat)
    (ha : ∀ x, a ≠ (edgeAddr cfg c x).toNat) : (wrchRegs cfg c d m).read a = m.read a := by
  simp [wrchRegs, edgeOrder, Memory.read_write_other _ _ _ _ (ha _)]

/-- A WRCH leaves the chip's memory in canonical form. -/
theorem wrchRegs_wf (cfg : Config) (c : Channel) (d : Duty) (m : Memory) (h : m.wf = true) :
    (wrchRegs cfg c d m).wf = true := by
  have hlt : ∀ x, (edgeAddr cfg c x).toNat < 256 := fun x => (edgeAddr cfg c x).isLt
  simp only [wrchRegs, edgeOrder, List.foldl]
  exact Memory.wf_write _ _ _ (Memory.wf_write _ _ _ (Memory.wf_write _ _ _
    (Memory.wf_write _ _ _ h (hlt _)) (hlt _)) (hlt _)) (hlt _)

end Sys2Proof.Machine
end

