-- ==== Sys2Proof/Laws/Operations.lean ====
section
/-! SUPPORT. A property of the state that every primitive action keeps is kept by every operation and by
every instruction: the induction over the meanings, done once. -/
namespace Sys2Proof.Machine

/-- What a property of the state must satisfy to be kept by every operation: it survives each update that a
primitive action makes. The semaphore's two events come only together (20_memory.md R75). -/
structure OpKept (P : State → Prop) : Prop extends BusKept P where
  emitted : ∀ (s : State) e, e ≠ .semAcq → e ≠ .semRel → P s → P (emit e s)
  gpioTaken : ∀ s : State, P s → P { s with env := { s.env with gpio := s.env.gpio.tail } }
  releaseTaken : ∀ s : State, P s → P { s with env := { s.env with release := s.env.release.tail } }
  storageTaken : ∀ s : State, P s → P { s with env := { s.env with storage := s.env.storage.tail } }
  busOpenTaken : ∀ s : State, P s → P { s with env := { s.env with busOpen := s.env.busOpen.tail } }
  sensed : ∀ (s : State) r, P s →
    P { s with clr := r, env := { s.env with sensor := s.env.sensor.tail } }
  copied : ∀ (s : State) snap, P s → P (emit .semRel (emit .semAcq
    { s with snap := snap, env := { s.env with shm := s.env.shm.tail } }))
  line : ∀ (s : State) l g, P s → P (setGpioLine l g s)
  mcs : ∀ (s : State) m, P s → P { s with mcs := m }
  attempted : ∀ s : State, P s → P { s with calAttempted := true }
  seq : ∀ (s : State) q, P s → P { s with seq := q }
  active : ∀ (s : State) b, P s → P { s with runActive := b }
  handle : ∀ (s : State) h, P s → P { s with handle := h }
  duty : ∀ (s : State) d, P s → P { s with resDuty := d, resDutyWritten := true }
  presc : ∀ (s : State) p, P s → P { s with resPresc := p, resPrescWritten := true }
  snapshot : ∀ (s : State) bytes, P s → P { s with resSnap := bytes, resSnapWritten := true }
  cleared : ∀ s : State, P s → P (clearErr s)

/-- An action that keeps a property, whether it is done or raises. -/
def Act.Keeps (P : State → Prop) (a : Act) : Prop :=
  ∀ s, P s → (a s).Holds (fun _ t => P t) (fun _ t => P t)

section kept
variable {P : State → Prop} (hP : OpKept P)
include hP

theorem OpKept.logEvent (s : State) (k : LogKind) (n : BitVec 16) (hs : P s) : P (logEvent k n s) :=
  hP.emitted s _ nofun nofun hs

theorem OpKept.busClose (s : State) (hs : P s) : P (busClose s) := hP.emitted s _ nofun nofun hs

theorem gpioRelease_keeps (l : Line) : Act.Keeps P (gpioRelease l) := by
  intro s hs
  unfold gpioRelease
  split
  · trivial
  · exact hP.emitted _ _ nofun nofun (hP.line _ l _ (hP.releaseTaken s hs))

theorem releaseHeldLines_keeps : Act.Keeps P releaseHeldLines := by
  have h1 : ∀ l : Line, Act.Keeps P (releaseIfHeld l) := fun l s hs => by
    unfold releaseIfHeld
    split
    · exact gpioRelease_keeps hP l s hs
    · exact hs
  refine holds_runSteps fun a ha => ?_
  simp only [List.mem_cons, List.not_mem_nil, or_false] at ha
  rcases ha with rfl | rfl
  · exact h1 _
  · exact h1 _

theorem OpKept.exit (s : State) (code : Nat) (hs : P s) : P (exitRun code s) :=
  hP.emitted _ _ nofun nofun (hP.seq _ _ (hP.active s false hs))

theorem delay_keeps (w : Wait) : Act.Keeps P (delay w) := fun s hs => hP.emitted s _ nofun nofun hs

theorem gpioRequest_keeps (n : Byte) (l : Line) : Act.Keeps P (gpioRequest n l) := by
  intro s hs
  unfold gpioRequest gpioAnswer
  split
  · trivial
  · rename_i ok _
    have ht := hP.emitted _ (.gpioReq l ok) nofun nofun (hP.line _ l
      ⟨(gpioLine l { s with env := { s.env with gpio := s.env.gpio.tail } }).held || ok, .unknown⟩
      (hP.gpioTaken s hs))
    cases ok
    · exact hP.raise _ _ _ ht
    · exact ht

theorem gpioWrite_keeps (n : Byte) (l : Line) (high : Bool) : Act.Keeps P (gpioWrite n l high) := by
  intro s hs
  unfold gpioWrite gpioAnswer
  split
  · trivial
  · rename_i ok _
    cases ok
    · exact hP.raise _ _ _ (hP.emitted _ (.gpioSet l high false) nofun nofun (hP.gpioTaken s hs))
    · exact hP.emitted _ (.gpioSet l high true) nofun nofun (hP.line _ l _ (hP.gpioTaken s hs))

theorem mapChannel_keeps (c : Channel) (w : F32) (s : State) (hs : P s) :
    (mapChannel c w s).Holds (fun _ t => P t) (fun _ t => P t) := by
  unfold mapChannel
  split
  · exact hs
  · exact hP.raise s _ _ hs

theorem motorWrite_keeps (w : F32) : Act.Keeps P (motorWrite w) := fun s hs =>
  holds_andThen (mapChannel_keeps hP _ w s hs) fun d t ht => writeChannel_keeps hP.toBusKept _ d t ht

theorem pulse_keeps (n : Byte) : ∀ a ∈ pulse n, Act.Keeps P a := by
  intro a ha
  simp only [pulse, List.mem_cons, List.not_mem_nil, or_false] at ha
  rcases ha with rfl | rfl | rfl | rfl
  · exact gpioWrite_keeps hP _ _ _
  · exact delay_keeps hP _
  · exact gpioWrite_keeps hP _ _ _
  · exact delay_keeps hP _

theorem setMcs_keeps (m : Mcs) : Act.Keeps P (setMcs m) := fun s hs => hP.mcs s m hs

/-- Every step of the five transitions keeps the property (42_motor_calibration.md R203 to R207). -/
theorem handshake_keeps (cfg : Config) : ∀ a ∈ handshake cfg, Act.Keeps P a := by
  intro a ha
  simp only [handshake, List.mem_append] at ha
  rcases ha with (((h1 | h2) | h3) | h4) | h5
  · simp only [calT1, List.mem_append, List.mem_cons, List.not_mem_nil, or_false] at h1
    rcases h1 with h1 | rfl | rfl | rfl | rfl
    · split at h1
      · simp only [List.mem_cons, List.not_mem_nil, or_false] at h1
        rcases h1 with rfl | rfl
        · exact gpioRequest_keeps hP _ _
        · exact gpioWrite_keeps hP _ _ _
      · cases h1
    · exact gpioRequest_keeps hP _ _
    · exact gpioWrite_keeps hP _ _ _
    · exact delay_keeps hP _
    · exact setMcs_keeps hP _
  · simp only [calT2, List.mem_append, List.mem_cons, List.not_mem_nil, or_false] at h2
    rcases h2 with ((rfl | rfl) | h2) | rfl
    · exact gpioWrite_keeps hP _ _ _
    · exact motorWrite_keeps hP _
    · exact pulse_keeps hP _ a h2
    · exact setMcs_keeps hP _
  · simp only [calT3, List.mem_append, List.mem_cons, List.not_mem_nil, or_false] at h3
    rcases h3 with rfl | h3 | rfl
    · exact motorWrite_keeps hP _
    · exact pulse_keeps hP _ a h3
    · exact setMcs_keeps hP _
  · simp only [calT4, List.mem_append, List.mem_cons, List.not_mem_nil, or_false] at h4
    rcases h4 with rfl | h4 | rfl
    · exact motorWrite_keeps hP _
    · exact pulse_keeps hP _ a h4
    · exact setMcs_keeps hP _
  · simp only [calT5, List.mem_append, List.mem_cons, List.not_mem_nil, or_false] at h5
    rcases h5 with h5 | rfl
    · split at h5
      · simp only [List.mem_cons] at h5
        rcases h5 with rfl | h5
        · exact gpioRelease_keeps hP _
        · split at h5
          · simp only [List.mem_cons, List.not_mem_nil, or_false] at h5
            subst h5
            exact gpioRelease_keeps hP _
          · cases h5
      · cases h5
    · exact setMcs_keeps hP _

theorem calOp_keeps : Act.Keeps P calOp := by
  intro s hs
  unfold calOp
  split
  · exact hs
  split
  · split
    · exact hP.raise s _ _ hs
    · unfold runHandshake
      have hk := holds_runSteps (P := P) (as := handshake s.cfg) (handshake_keeps hP s.cfg)
        (setPhase .calibrating { s with calAttempted := true }) (hP.seq _ _ (hP.attempted s hs))
      split
      · rename_i hr
        rw [hr] at hk
        exact hP.seq _ _ hk
      · rename_i hr
        rw [hr] at hk
        exact holds_andThen (releaseHeldLines_keeps hP _ hk) fun _ u hu =>
          hP.raise _ _ _ (hP.logEvent _ _ _ (hP.seq _ _ (hP.mcs _ _ hu)))
      · trivial
  · exact hP.mcs _ _ (hP.attempted s hs)

omit hP in
/-- An absorbed error's policy that keeps the property. -/
theorem absorb_keeps {a : Act} (ha : Act.Keeps P a) {p : Raise → State → State}
    (hp : ∀ e s, P s → P (p e s)) : Act.Keeps P fun s => (a s).absorb p := fun s hs =>
  holds_absorb (holds_mono (ha s hs) (fun _ _ h => h) fun e t ht => hp e t ht)

theorem channelWrite_keeps (c : Channel) (w : F32) (lazy : Bool) : Act.Keeps P (channelWrite c w lazy) := by
  intro s hs
  have hm := mapChannel_keeps hP c w s hs
  unfold channelWrite
  split
  · rename_i hr
    rw [hr] at hm
    exact hP.logEvent _ _ _ hm
  · trivial
  · rename_i d t hr
    rw [hr] at hm
    have hpre : (motorPreamble c lazy t).Holds (fun _ u => P u) (fun _ u => P u) := by
      unfold motorPreamble
      split
      · have hl : (lazyCal lazy t).Holds (fun _ u => P u) (fun _ u => P u) := by
          unfold lazyCal
          split
          · exact absorb_keeps (calOp_keeps hP) (fun _ _ h => h) t hm
          · exact hm
        refine holds_andThen hl fun _ u hu => ?_
        unfold logUncal
        split
        · exact hu
        · exact hP.logEvent _ _ _ hu
      · exact hm
    exact holds_andThen hpre fun _ u hu =>
      absorb_keeps (fun v hv => writeChannel_keeps hP.toBusKept c d v hv)
        (fun _ v hv => hP.logEvent v _ _ hv) u hu

theorem normalTick_keeps : Act.Keeps P normalTick := by
  refine holds_runSteps fun a ha => ?_
  simp only [List.mem_cons, List.not_mem_nil, or_false] at ha
  rcases ha with rfl | rfl | rfl
  · intro s hs
    unfold copySnapshot
    split
    · trivial
    · exact hP.copied s _ hs
  · intro s hs
    unfold actuate
    split
    · refine holds_runSteps (fun b hb => ?_) s hs
      obtain ⟨c, -, rfl⟩ := List.mem_map.1 hb
      exact fun t ht => channelWrite_keeps hP _ _ _ _ (hP.seq t _ ht)
    · exact hs
  · exact delay_keeps hP _

theorem tickBody_keeps : Act.Keeps P tickBody := by
  intro s hs
  unfold tickBody
  split
  · have h1 : (senseClearance s).Holds (fun _ t => P t) (fun _ t => P t) := by
      unfold senseClearance
      split
      · trivial
      · exact hP.emitted _ _ nofun nofun (hP.sensed s _ hs)
    refine holds_andThen h1 fun _ t ht => ?_
    split
    · refine holds_runSteps (fun a ha => ?_) t ht
      simp only [List.mem_cons, List.not_mem_nil, or_false] at ha
      rcases ha with rfl | rfl
      · exact channelWrite_keeps hP _ _ _
      · exact delay_keeps hP _
    · exact normalTick_keeps hP t ht
  · exact normalTick_keeps hP s hs

theorem shutdownOp_keeps : Act.Keeps P shutdownOp := by
  intro s hs
  have h1 : (shutdownReset (setPhase .shuttingDown s)).Holds (fun _ t => P t) (fun _ t => P t) := by
    unfold shutdownReset
    split
    · exact hP.seq s _ hs
    · refine holds_andThen (absorb_keeps (P := P) (a := resetOp)
        (fun t ht => resetOp_keeps hP.toBusKept (fun u w hu => hP.emitted u _ nofun nofun hu) t ht)
        (fun _ t ht => hP.logEvent t _ _ ht) _ (hP.seq s _ hs)) fun _ t ht => ?_
      exact hP.handle _ _ (hP.busClose t ht)
  exact holds_andThen h1 fun _ t ht =>
    holds_andThen (releaseHeldLines_keeps hP t ht) fun _ u hu => hP.exit u _ hu

theorem needHandle_keeps {a : Act} (ha : Act.Keeps P a) : Act.Keeps P (needHandle a) := by
  intro s hs
  unfold needHandle
  split
  · exact hP.raise s _ _ hs
  · exact ha s hs

theorem tickOp_keeps : Act.Keeps P tickOp := by
  refine needHandle_keeps hP fun s hs => ?_
  split
  · exact shutdownOp_keeps hP s hs
  · exact tickBody_keeps hP s hs

theorem openOp_keeps : Act.Keeps P openOp := by
  intro s hs
  have h0 : P (closeHandle s) := by
    unfold closeHandle
    split
    · exact hs
    · exact hP.handle _ _ (hP.busClose s hs)
  have h1 := hP.storageTaken _ h0
  unfold openOp
  dsimp only
  split
  · have hopen : ∀ t, P t → (busOpen t).Holds (fun _ u => P u) (fun _ u => P u) := by
      intro t ht
      unfold busOpen
      dsimp only
      split
      · exact hP.emitted _ _ nofun nofun (hP.busOpenTaken t ht)
      · exact hP.raise _ _ _ (hP.emitted _ _ nofun nofun (hP.busOpenTaken t ht))
    refine holds_andThen (hopen _ h1) fun conn t ht => ?_
    apply closeOnRaise_holds
    have hinit : (initChip conn t).Holds (fun _ u => P u) (fun _ u => P u) := by
      refine holds_andThen (resetOp_keeps hP.toBusKept (fun u w hu => hP.emitted u _ nofun nofun hu) t ht)
        fun _ u hu => ?_
      split
      · exact hP.raise u _ _ hu
      · rename_i p _
        refine holds_andThen (P := fun _ v => P v) ?_ fun _ v hv => hP.handle v _ hv
        refine holds_runSteps (fun a ha => ?_) u hu
        simp only [List.mem_cons, List.not_mem_nil, or_false] at ha
        rcases ha with rfl | rfl | rfl | rfl | rfl
        · exact fun v hv => regWrite_keeps hP.toBusKept _ _ v hv
        · exact fun v hv => regWrite_keeps hP.toBusKept _ _ v hv
        · exact delay_keeps hP _
        · exact fun v hv => regWrite_keeps hP.toBusKept _ _ v hv
        · exact fun v hv => regWrite_keeps hP.toBusKept _ _ v hv
    exact holds_mono hinit (fun _ _ h => h) fun e u hu => hP.busClose u hu
  · exact hP.raise _ _ _ h1

theorem runOp_keeps (calibrate : Bool) : Act.Keeps P (runOp calibrate) := by
  intro s hs
  have ho := openOp_keeps hP (setPhase .init { s with runActive := true })
    (hP.seq _ _ (hP.active s true hs))
  unfold runOp
  split
  · rename_i hr
    rw [hr] at ho
    exact hP.exit _ _ (hP.logEvent _ _ _ ho)
  · trivial
  · rename_i t hr
    rw [hr] at ho
    have hc := absorb_keeps (calOp_keeps hP) (p := keepGoing) (fun _ _ h => h)
    unfold afterOpen
    split
    · exact holds_andThen (hc t ho) fun _ u hu => shutdownOp_keeps hP u hu
    · refine holds_andThen (P := fun _ u => P u) ?_ fun _ u hu => hP.seq u _ hu
      split
      · exact hc t ho
      · exact ho

/-- What every primitive action keeps, every instruction keeps. -/
theorem exec_keeps {i : Instr} {s t : State} (hs : P s) (he : exec i s = .next t) : P t := by
  have hc := hP.cleared s hs
  have fin : ∀ {a : Act} {u : State}, Act.Keeps P a → P u → (a u).outcome = .next t → P t :=
    fun ha hu h => outcome_next_holds h (ha _ hu)
  rcases instr_groups s.cfg i with rfl | ⟨r, v, hr⟩ | ⟨r, hr⟩ | hi
  · exact fin (needHandle_keeps hP fun u hu => swrst_keeps hP.toBusKept u hu) hs he
  · rw [exec_writeRow hr] at he
    exact fin (needHandle_keeps hP fun u hu => regWrite_keeps hP.toBusKept _ _ u hu) hs he
  · rw [exec_readRow hr] at he
    refine fin (needHandle_keeps hP (a := readFrame r) fun u hu => ?_) hs he
    exact holds_andThen (regRead_keeps hP.toBusKept r u hu) fun _ v hv => hv
  · simp only [commandInstrs, List.mem_cons, List.not_mem_nil, or_false] at hi
    rcases hi with rfl | rfl | rfl | rfl | rfl | rfl | rfl | rfl | rfl | rfl
    · exact fin (openOp_keeps hP) hc he
    · exact fin (needHandle_keeps hP fun u hu =>
        resetOp_keeps hP.toBusKept (fun v w hv => hP.emitted v _ nofun nofun hv) u hu) hc he
    · have he' : execWrch s = .next t := he
      unfold execWrch at he'
      split at he'
      · exact outcome_next_holds he' (P := P) (hP.raise s _ _ hs)
      · refine fin (needHandle_keeps hP fun u hu => ?_) hc he'
        unfold wrchOp
        split
        · exact hP.raise u _ _ hu
        · exact writeChannel_keeps hP.toBusKept _ _ u hu
    · refine fin (needHandle_keeps hP (a := rdallOp) fun u hu => ?_) hc he
      exact holds_andThen (readRegs_keeps hP.toBusKept _ u hu) fun bs v hv => hP.snapshot v bs hv
    · refine fin (a := prescOp s.argFreq) (fun u hu => ?_) hc he
      unfold prescOp
      split
      · exact hP.raise u _ _ hu
      · exact hP.presc u _ hu
    · refine fin (a := mapOp s.argCh s.argFrac) (fun u hu => ?_) hc he
      unfold mapOp
      split
      · exact hP.raise u _ _ hu
      · exact holds_andThen (mapChannel_keeps hP _ _ u hu) fun d v hv => hP.duty v d hv
    · exact fin (calOp_keeps hP) hc he
    · exact fin (tickOp_keeps hP) hc he
    · have he' : execRun s = .next t := he
      unfold execRun at he'
      split at he'
      · exact fin (runOp_keeps hP false) hc he'
      · exact fin (runOp_keeps hP true) hc he'
      · cases he'
      · exact outcome_next_holds he' (P := P) (hP.raise s _ _ hs)
    · exact fin (shutdownOp_keeps hP) hc he

end kept

end Sys2Proof.Machine
end

