-- ==== Sys2Proof/Laws/PerInstr.lean ====
section
/-! SUPPORT. Per instruction: its encoding under the defaults agrees with its row of
spec/opcode_table.json, on the bus address, the width, and every fixed bit, whatever its operands. -/
namespace Sys2Proof.Laws

open Sys2Proof.Machine

/-- A row of spec/opcode_table.json: the bus address (`none` for the command port), the width in bits, the
mask of the fixed bits and their values. -/
structure TableRow where
  addr : Option BusAddr
  width : Nat
  mask : BitVec 16
  fixed : BitVec 16
deriving DecidableEq, Repr

/-- A W2 row, sent to DEV_ADDR. -/
def w2 (mask fixed : BitVec 16) : TableRow := ⟨some 0x40#7, 16, mask, fixed⟩

/-- An R1 row, sent to DEV_ADDR. -/
def r1 (fixed : BitVec 16) : TableRow := ⟨some 0x40#7, 8, 0xFF#16, fixed⟩

/-- A CMD row. -/
def command (fixed : BitVec 16) : TableRow := ⟨none, 8, 0xFF#16, fixed⟩

/-- The row of each instruction, as the table prints it. -/
def tableRow : Instr → TableRow
  | .swrst => ⟨some 0x00#7, 8, 0xFF#16, 0x06#16⟩
  | .wrPrescale _ => w2 0xFF00#16 0xFE00#16
  | .wrMode1Wake => w2 0xFFFF#16 0x0000#16
  | .wrMode1Run => w2 0xFFFF#16 0x00A1#16
  | .wrMode2 => w2 0xFFFF#16 0x0104#16
  | .wrCh0OnL => w2 0xFFFF#16 0x0600#16
  | .wrCh0OnH => w2 0xFFFF#16 0x0700#16
  | .wrCh0OffL _ => w2 0xFF00#16 0x0800#16
  | .wrCh0OffH _ => w2 0xFFF0#16 0x0900#16
  | .wrCh1OnL => w2 0xFFFF#16 0x0A00#16
  | .wrCh1OnH => w2 0xFFFF#16 0x0B00#16
  | .wrCh1OffL _ => w2 0xFF00#16 0x0C00#16
  | .wrCh1OffH _ => w2 0xFFF0#16 0x0D00#16
  | .wrCh2OnL => w2 0xFFFF#16 0x0E00#16
  | .wrCh2OnH => w2 0xFFFF#16 0x0F00#16
  | .wrCh2OffL _ => w2 0xFF00#16 0x1000#16
  | .wrCh2OffH _ => w2 0xFFF0#16 0x1100#16
  | .wrCh3OnL => w2 0xFFFF#16 0x1200#16
  | .wrCh3OnH => w2 0xFFFF#16 0x1300#16
  | .wrCh3OffL _ => w2 0xFF00#16 0x1400#16
  | .wrCh3OffH _ => w2 0xFFF0#16 0x1500#16
  | .wrCh4OnL => w2 0xFFFF#16 0x1600#16
  | .wrCh4OnH => w2 0xFFFF#16 0x1700#16
  | .wrCh4OffL _ => w2 0xFF00#16 0x1800#16
  | .wrCh4OffH _ => w2 0xFFF0#16 0x1900#16
  | .wrCh5OnL => w2 0xFFFF#16 0x1A00#16
  | .wrCh5OnH => w2 0xFFFF#16 0x1B00#16
  | .wrCh5OffL _ => w2 0xFF00#16 0x1C00#16
  | .wrCh5OffH _ => w2 0xFFF0#16 0x1D00#16
  | .wrCh6OnL => w2 0xFFFF#16 0x1E00#16
  | .wrCh6OnH => w2 0xFFFF#16 0x1F00#16
  | .wrCh6OffL _ => w2 0xFF00#16 0x2000#16
  | .wrCh6OffH _ => w2 0xFFF0#16 0x2100#16
  | .wrCh7OnL => w2 0xFFFF#16 0x2200#16
  | .wrCh7OnH => w2 0xFFFF#16 0x2300#16
  | .wrCh7OffL _ => w2 0xFF00#16 0x2400#16
  | .wrCh7OffH _ => w2 0xFFF0#16 0x2500#16
  | .wrCh8OnL => w2 0xFFFF#16 0x2600#16
  | .wrCh8OnH => w2 0xFFFF#16 0x2700#16
  | .wrCh8OffL _ => w2 0xFF00#16 0x2800#16
  | .wrCh8OffH _ => w2 0xFFF0#16 0x2900#16
  | .wrCh9OnL => w2 0xFFFF#16 0x2A00#16
  | .wrCh9OnH => w2 0xFFFF#16 0x2B00#16
  | .wrCh9OffL _ => w2 0xFF00#16 0x2C00#16
  | .wrCh9OffH _ => w2 0xFFF0#16 0x2D00#16
  | .wrCh10OnL => w2 0xFFFF#16 0x2E00#16
  | .wrCh10OnH => w2 0xFFFF#16 0x2F00#16
  | .wrCh10OffL _ => w2 0xFF00#16 0x3000#16
  | .wrCh10OffH _ => w2 0xFFF0#16 0x3100#16
  | .wrCh11OnL => w2 0xFFFF#16 0x3200#16
  | .wrCh11OnH => w2 0xFFFF#16 0x3300#16
  | .wrCh11OffL _ => w2 0xFF00#16 0x3400#16
  | .wrCh11OffH _ => w2 0xFFF0#16 0x3500#16
  | .wrCh12OnL => w2 0xFFFF#16 0x3600#16
  | .wrCh12OnH => w2 0xFFFF#16 0x3700#16
  | .wrCh12OffL _ => w2 0xFF00#16 0x3800#16
  | .wrCh12OffH _ => w2 0xFFF0#16 0x3900#16
  | .wrCh13OnL => w2 0xFFFF#16 0x3A00#16
  | .wrCh13OnH => w2 0xFFFF#16 0x3B00#16
  | .wrCh13OffL _ => w2 0xFF00#16 0x3C00#16
  | .wrCh13OffH _ => w2 0xFFF0#16 0x3D00#16
  | .wrCh14OnL => w2 0xFFFF#16 0x3E00#16
  | .wrCh14OnH => w2 0xFFFF#16 0x3F00#16
  | .wrCh14OffL _ => w2 0xFF00#16 0x4000#16
  | .wrCh14OffH _ => w2 0xFFF0#16 0x4100#16
  | .wrCh15OnL => w2 0xFFFF#16 0x4200#16
  | .wrCh15OnH => w2 0xFFFF#16 0x4300#16
  | .wrCh15OffL _ => w2 0xFF00#16 0x4400#16
  | .wrCh15OffH _ => w2 0xFFF0#16 0x4500#16
  | .rdMode1 => r1 0x00#16
  | .rdMode2 => r1 0x01#16
  | .rdPrescale => r1 0xFE#16
  | .rdCh0OnL => r1 0x06#16
  | .rdCh0OnH => r1 0x07#16
  | .rdCh0OffL => r1 0x08#16
  | .rdCh0OffH => r1 0x09#16
  | .rdCh1OnL => r1 0x0A#16
  | .rdCh1OnH => r1 0x0B#16
  | .rdCh1OffL => r1 0x0C#16
  | .rdCh1OffH => r1 0x0D#16
  | .rdCh2OnL => r1 0x0E#16
  | .rdCh2OnH => r1 0x0F#16
  | .rdCh2OffL => r1 0x10#16
  | .rdCh2OffH => r1 0x11#16
  | .rdCh3OnL => r1 0x12#16
  | .rdCh3OnH => r1 0x13#16
  | .rdCh3OffL => r1 0x14#16
  | .rdCh3OffH => r1 0x15#16
  | .rdCh4OnL => r1 0x16#16
  | .rdCh4OnH => r1 0x17#16
  | .rdCh4OffL => r1 0x18#16
  | .rdCh4OffH => r1 0x19#16
  | .rdCh5OnL => r1 0x1A#16
  | .rdCh5OnH => r1 0x1B#16
  | .rdCh5OffL => r1 0x1C#16
  | .rdCh5OffH => r1 0x1D#16
  | .rdCh6OnL => r1 0x1E#16
  | .rdCh6OnH => r1 0x1F#16
  | .rdCh6OffL => r1 0x20#16
  | .rdCh6OffH => r1 0x21#16
  | .rdCh7OnL => r1 0x22#16
  | .rdCh7OnH => r1 0x23#16
  | .rdCh7OffL => r1 0x24#16
  | .rdCh7OffH => r1 0x25#16
  | .rdCh8OnL => r1 0x26#16
  | .rdCh8OnH => r1 0x27#16
  | .rdCh8OffL => r1 0x28#16
  | .rdCh8OffH => r1 0x29#16
  | .rdCh9OnL => r1 0x2A#16
  | .rdCh9OnH => r1 0x2B#16
  | .rdCh9OffL => r1 0x2C#16
  | .rdCh9OffH => r1 0x2D#16
  | .rdCh10OnL => r1 0x2E#16
  | .rdCh10OnH => r1 0x2F#16
  | .rdCh10OffL => r1 0x30#16
  | .rdCh10OffH => r1 0x31#16
  | .rdCh11OnL => r1 0x32#16
  | .rdCh11OnH => r1 0x33#16
  | .rdCh11OffL => r1 0x34#16
  | .rdCh11OffH => r1 0x35#16
  | .rdCh12OnL => r1 0x36#16
  | .rdCh12OnH => r1 0x37#16
  | .rdCh12OffL => r1 0x38#16
  | .rdCh12OffH => r1 0x39#16
  | .rdCh13OnL => r1 0x3A#16
  | .rdCh13OnH => r1 0x3B#16
  | .rdCh13OffL => r1 0x3C#16
  | .rdCh13OffH => r1 0x3D#16
  | .rdCh14OnL => r1 0x3E#16
  | .rdCh14OnH => r1 0x3F#16
  | .rdCh14OffL => r1 0x40#16
  | .rdCh14OffH => r1 0x41#16
  | .rdCh15OnL => r1 0x42#16
  | .rdCh15OnH => r1 0x43#16
  | .rdCh15OffL => r1 0x44#16
  | .rdCh15OffH => r1 0x45#16
  | .opOpen => command 0x01#16
  | .opReset => command 0x02#16
  | .opWrch => command 0x03#16
  | .opRdall => command 0x04#16
  | .opPresc => command 0x05#16
  | .opMap => command 0x06#16
  | .opCal => command 0x07#16
  | .opTick => command 0x08#16
  | .opRun => command 0x09#16
  | .opShutdown => command 0x0A#16

/-- The fixed bits a port word carries under a mask, numbered as the table numbers them. -/
def carried (mask : BitVec 16) : PortWord → Option TableRow
  | .cmd c => some ⟨none, 8, mask, c.setWidth 16 &&& mask⟩
  | .frame a [r] => some ⟨some a, 8, mask, r.setWidth 16 &&& mask⟩
  | .frame a [r, v] => some ⟨some a, 16, mask, (r ++ v) &&& mask⟩
  | .frame _ _ => none

/-- The encoding of an instruction carries its row's fixed bits. -/
def TableRow.Statement (i : Instr) : Prop :=
  carried (tableRow i).mask (encode Config.initial i) = some (tableRow i)

/-- The high byte of a two-byte word. -/
theorem high_byte (r v : Byte) : (r ++ v : BitVec 16) &&& 0xFF00#16 = r ++ 0#8 := by
  have h : (0xFF00#16 : BitVec 16) = (0xFF#8 ++ 0x00#8 : BitVec 16) := by decide
  rw [h, BitVec.and_append]
  have hr : r &&& 0xFF#8 = r := by revert r; decide
  simp [hr]

/-- The row of a write whose data byte is an operand. -/
theorem carried_operand (r v : Byte) : carried 0xFF00#16 (.frame 0x40#7 [r, v]) = some (w2 0xFF00#16 (r ++ 0#8)) := by
  simp only [carried, w2, high_byte]

theorem TableRow.swrst : TableRow.Statement .swrst := rfl
theorem TableRow.wrPrescale (prescale : Byte) : TableRow.Statement (.wrPrescale prescale) :=
  carried_operand _ prescale
theorem TableRow.wrMode1Wake : TableRow.Statement .wrMode1Wake := rfl
theorem TableRow.wrMode1Run : TableRow.Statement .wrMode1Run := rfl
theorem TableRow.wrMode2 : TableRow.Statement .wrMode2 := rfl
theorem TableRow.wrCh0OnL : TableRow.Statement .wrCh0OnL := rfl
theorem TableRow.wrCh0OnH : TableRow.Statement .wrCh0OnH := rfl
theorem TableRow.wrCh0OffL (dLo : Byte) : TableRow.Statement (.wrCh0OffL dLo) :=
  carried_operand _ dLo
theorem TableRow.wrCh0OffH (dHi : BitVec 4) : TableRow.Statement (.wrCh0OffH dHi) := by
  revert dHi; unfold TableRow.Statement; decide
theorem TableRow.wrCh1OnL : TableRow.Statement .wrCh1OnL := rfl
theorem TableRow.wrCh1OnH : TableRow.Statement .wrCh1OnH := rfl
theorem TableRow.wrCh1OffL (dLo : Byte) : TableRow.Statement (.wrCh1OffL dLo) :=
  carried_operand _ dLo
theorem TableRow.wrCh1OffH (dHi : BitVec 4) : TableRow.Statement (.wrCh1OffH dHi) := by
  revert dHi; unfold TableRow.Statement; decide
theorem TableRow.wrCh2OnL : TableRow.Statement .wrCh2OnL := rfl
theorem TableRow.wrCh2OnH : TableRow.Statement .wrCh2OnH := rfl
theorem TableRow.wrCh2OffL (dLo : Byte) : TableRow.Statement (.wrCh2OffL dLo) :=
  carried_operand _ dLo
theorem TableRow.wrCh2OffH (dHi : BitVec 4) : TableRow.Statement (.wrCh2OffH dHi) := by
  revert dHi; unfold TableRow.Statement; decide
theorem TableRow.wrCh3OnL : TableRow.Statement .wrCh3OnL := rfl
theorem TableRow.wrCh3OnH : TableRow.Statement .wrCh3OnH := rfl
theorem TableRow.wrCh3OffL (dLo : Byte) : TableRow.Statement (.wrCh3OffL dLo) :=
  carried_operand _ dLo
theorem TableRow.wrCh3OffH (dHi : BitVec 4) : TableRow.Statement (.wrCh3OffH dHi) := by
  revert dHi; unfold TableRow.Statement; decide
theorem TableRow.wrCh4OnL : TableRow.Statement .wrCh4OnL := rfl
theorem TableRow.wrCh4OnH : TableRow.Statement .wrCh4OnH := rfl
theorem TableRow.wrCh4OffL (dLo : Byte) : TableRow.Statement (.wrCh4OffL dLo) :=
  carried_operand _ dLo
theorem TableRow.wrCh4OffH (dHi : BitVec 4) : TableRow.Statement (.wrCh4OffH dHi) := by
  revert dHi; unfold TableRow.Statement; decide
theorem TableRow.wrCh5OnL : TableRow.Statement .wrCh5OnL := rfl
theorem TableRow.wrCh5OnH : TableRow.Statement .wrCh5OnH := rfl
theorem TableRow.wrCh5OffL (dLo : Byte) : TableRow.Statement (.wrCh5OffL dLo) :=
  carried_operand _ dLo
theorem TableRow.wrCh5OffH (dHi : BitVec 4) : TableRow.Statement (.wrCh5OffH dHi) := by
  revert dHi; unfold TableRow.Statement; decide
theorem TableRow.wrCh6OnL : TableRow.Statement .wrCh6OnL := rfl
theorem TableRow.wrCh6OnH : TableRow.Statement .wrCh6OnH := rfl
theorem TableRow.wrCh6OffL (dLo : Byte) : TableRow.Statement (.wrCh6OffL dLo) :=
  carried_operand _ dLo
theorem TableRow.wrCh6OffH (dHi : BitVec 4) : TableRow.Statement (.wrCh6OffH dHi) := by
  revert dHi; unfold TableRow.Statement; decide
theorem TableRow.wrCh7OnL : TableRow.Statement .wrCh7OnL := rfl
theorem TableRow.wrCh7OnH : TableRow.Statement .wrCh7OnH := rfl
theorem TableRow.wrCh7OffL (dLo : Byte) : TableRow.Statement (.wrCh7OffL dLo) :=
  carried_operand _ dLo
theorem TableRow.wrCh7OffH (dHi : BitVec 4) : TableRow.Statement (.wrCh7OffH dHi) := by
  revert dHi; unfold TableRow.Statement; decide
theorem TableRow.wrCh8OnL : TableRow.Statement .wrCh8OnL := rfl
theorem TableRow.wrCh8OnH : TableRow.Statement .wrCh8OnH := rfl
theorem TableRow.wrCh8OffL (dLo : Byte) : TableRow.Statement (.wrCh8OffL dLo) :=
  carried_operand _ dLo
theorem TableRow.wrCh8OffH (dHi : BitVec 4) : TableRow.Statement (.wrCh8OffH dHi) := by
  revert dHi; unfold TableRow.Statement; decide
theorem TableRow.wrCh9OnL : TableRow.Statement .wrCh9OnL := rfl
theorem TableRow.wrCh9OnH : TableRow.Statement .wrCh9OnH := rfl
theorem TableRow.wrCh9OffL (dLo : Byte) : TableRow.Statement (.wrCh9OffL dLo) :=
  carried_operand _ dLo
theorem TableRow.wrCh9OffH (dHi : BitVec 4) : TableRow.Statement (.wrCh9OffH dHi) := by
  revert dHi; unfold TableRow.Statement; decide
theorem TableRow.wrCh10OnL : TableRow.Statement .wrCh10OnL := rfl
theorem TableRow.wrCh10OnH : TableRow.Statement .wrCh10OnH := rfl
theorem TableRow.wrCh10OffL (dLo : Byte) : TableRow.Statement (.wrCh10OffL dLo) :=
  carried_operand _ dLo
theorem TableRow.wrCh10OffH (dHi : BitVec 4) : TableRow.Statement (.wrCh10OffH dHi) := by
  revert dHi; unfold TableRow.Statement; decide
theorem TableRow.wrCh11OnL : TableRow.Statement .wrCh11OnL := rfl
theorem TableRow.wrCh11OnH : TableRow.Statement .wrCh11OnH := rfl
theorem TableRow.wrCh11OffL (dLo : Byte) : TableRow.Statement (.wrCh11OffL dLo) :=
  carried_operand _ dLo
theorem TableRow.wrCh11OffH (dHi : BitVec 4) : TableRow.Statement (.wrCh11OffH dHi) := by
  revert dHi; unfold TableRow.Statement; decide
theorem TableRow.wrCh12OnL : TableRow.Statement .wrCh12OnL := rfl
theorem TableRow.wrCh12OnH : TableRow.Statement .wrCh12OnH := rfl
theorem TableRow.wrCh12OffL (dLo : Byte) : TableRow.Statement (.wrCh12OffL dLo) :=
  carried_operand _ dLo
theorem TableRow.wrCh12OffH (dHi : BitVec 4) : TableRow.Statement (.wrCh12OffH dHi) := by
  revert dHi; unfold TableRow.Statement; decide
theorem TableRow.wrCh13OnL : TableRow.Statement .wrCh13OnL := rfl
theorem TableRow.wrCh13OnH : TableRow.Statement .wrCh13OnH := rfl
theorem TableRow.wrCh13OffL (dLo : Byte) : TableRow.Statement (.wrCh13OffL dLo) :=
  carried_operand _ dLo
theorem TableRow.wrCh13OffH (dHi : BitVec 4) : TableRow.Statement (.wrCh13OffH dHi) := by
  revert dHi; unfold TableRow.Statement; decide
theorem TableRow.wrCh14OnL : TableRow.Statement .wrCh14OnL := rfl
theorem TableRow.wrCh14OnH : TableRow.Statement .wrCh14OnH := rfl
theorem TableRow.wrCh14OffL (dLo : Byte) : TableRow.Statement (.wrCh14OffL dLo) :=
  carried_operand _ dLo
theorem TableRow.wrCh14OffH (dHi : BitVec 4) : TableRow.Statement (.wrCh14OffH dHi) := by
  revert dHi; unfold TableRow.Statement; decide
theorem TableRow.wrCh15OnL : TableRow.Statement .wrCh15OnL := rfl
theorem TableRow.wrCh15OnH : TableRow.Statement .wrCh15OnH := rfl
theorem TableRow.wrCh15OffL (dLo : Byte) : TableRow.Statement (.wrCh15OffL dLo) :=
  carried_operand _ dLo
theorem TableRow.wrCh15OffH (dHi : BitVec 4) : TableRow.Statement (.wrCh15OffH dHi) := by
  revert dHi; unfold TableRow.Statement; decide
theorem TableRow.rdMode1 : TableRow.Statement .rdMode1 := rfl
theorem TableRow.rdMode2 : TableRow.Statement .rdMode2 := rfl
theorem TableRow.rdPrescale : TableRow.Statement .rdPrescale := rfl
theorem TableRow.rdCh0OnL : TableRow.Statement .rdCh0OnL := rfl
theorem TableRow.rdCh0OnH : TableRow.Statement .rdCh0OnH := rfl
theorem TableRow.rdCh0OffL : TableRow.Statement .rdCh0OffL := rfl
theorem TableRow.rdCh0OffH : TableRow.Statement .rdCh0OffH := rfl
theorem TableRow.rdCh1OnL : TableRow.Statement .rdCh1OnL := rfl
theorem TableRow.rdCh1OnH : TableRow.Statement .rdCh1OnH := rfl
theorem TableRow.rdCh1OffL : TableRow.Statement .rdCh1OffL := rfl
theorem TableRow.rdCh1OffH : TableRow.Statement .rdCh1OffH := rfl
theorem TableRow.rdCh2OnL : TableRow.Statement .rdCh2OnL := rfl
theorem TableRow.rdCh2OnH : TableRow.Statement .rdCh2OnH := rfl
theorem TableRow.rdCh2OffL : TableRow.Statement .rdCh2OffL := rfl
theorem TableRow.rdCh2OffH : TableRow.Statement .rdCh2OffH := rfl
theorem TableRow.rdCh3OnL : TableRow.Statement .rdCh3OnL := rfl
theorem TableRow.rdCh3OnH : TableRow.Statement .rdCh3OnH := rfl
theorem TableRow.rdCh3OffL : TableRow.Statement .rdCh3OffL := rfl
theorem TableRow.rdCh3OffH : TableRow.Statement .rdCh3OffH := rfl
theorem TableRow.rdCh4OnL : TableRow.Statement .rdCh4OnL := rfl
theorem TableRow.rdCh4OnH : TableRow.Statement .rdCh4OnH := rfl
theorem TableRow.rdCh4OffL : TableRow.Statement .rdCh4OffL := rfl
theorem TableRow.rdCh4OffH : TableRow.Statement .rdCh4OffH := rfl
theorem TableRow.rdCh5OnL : TableRow.Statement .rdCh5OnL := rfl
theorem TableRow.rdCh5OnH : TableRow.Statement .rdCh5OnH := rfl
theorem TableRow.rdCh5OffL : TableRow.Statement .rdCh5OffL := rfl
theorem TableRow.rdCh5OffH : TableRow.Statement .rdCh5OffH := rfl
theorem TableRow.rdCh6OnL : TableRow.Statement .rdCh6OnL := rfl
theorem TableRow.rdCh6OnH : TableRow.Statement .rdCh6OnH := rfl
theorem TableRow.rdCh6OffL : TableRow.Statement .rdCh6OffL := rfl
theorem TableRow.rdCh6OffH : TableRow.Statement .rdCh6OffH := rfl
theorem TableRow.rdCh7OnL : TableRow.Statement .rdCh7OnL := rfl
theorem TableRow.rdCh7OnH : TableRow.Statement .rdCh7OnH := rfl
theorem TableRow.rdCh7OffL : TableRow.Statement .rdCh7OffL := rfl
theorem TableRow.rdCh7OffH : TableRow.Statement .rdCh7OffH := rfl
theorem TableRow.rdCh8OnL : TableRow.Statement .rdCh8OnL := rfl
theorem TableRow.rdCh8OnH : TableRow.Statement .rdCh8OnH := rfl
theorem TableRow.rdCh8OffL : TableRow.Statement .rdCh8OffL := rfl
theorem TableRow.rdCh8OffH : TableRow.Statement .rdCh8OffH := rfl
theorem TableRow.rdCh9OnL : TableRow.Statement .rdCh9OnL := rfl
theorem TableRow.rdCh9OnH : TableRow.Statement .rdCh9OnH := rfl
theorem TableRow.rdCh9OffL : TableRow.Statement .rdCh9OffL := rfl
theorem TableRow.rdCh9OffH : TableRow.Statement .rdCh9OffH := rfl
theorem TableRow.rdCh10OnL : TableRow.Statement .rdCh10OnL := rfl
theorem TableRow.rdCh10OnH : TableRow.Statement .rdCh10OnH := rfl
theorem TableRow.rdCh10OffL : TableRow.Statement .rdCh10OffL := rfl
theorem TableRow.rdCh10OffH : TableRow.Statement .rdCh10OffH := rfl
theorem TableRow.rdCh11OnL : TableRow.Statement .rdCh11OnL := rfl
theorem TableRow.rdCh11OnH : TableRow.Statement .rdCh11OnH := rfl
theorem TableRow.rdCh11OffL : TableRow.Statement .rdCh11OffL := rfl
theorem TableRow.rdCh11OffH : TableRow.Statement .rdCh11OffH := rfl
theorem TableRow.rdCh12OnL : TableRow.Statement .rdCh12OnL := rfl
theorem TableRow.rdCh12OnH : TableRow.Statement .rdCh12OnH := rfl
theorem TableRow.rdCh12OffL : TableRow.Statement .rdCh12OffL := rfl
theorem TableRow.rdCh12OffH : TableRow.Statement .rdCh12OffH := rfl
theorem TableRow.rdCh13OnL : TableRow.Statement .rdCh13OnL := rfl
theorem TableRow.rdCh13OnH : TableRow.Statement .rdCh13OnH := rfl
theorem TableRow.rdCh13OffL : TableRow.Statement .rdCh13OffL := rfl
theorem TableRow.rdCh13OffH : TableRow.Statement .rdCh13OffH := rfl
theorem TableRow.rdCh14OnL : TableRow.Statement .rdCh14OnL := rfl
theorem TableRow.rdCh14OnH : TableRow.Statement .rdCh14OnH := rfl
theorem TableRow.rdCh14OffL : TableRow.Statement .rdCh14OffL := rfl
theorem TableRow.rdCh14OffH : TableRow.Statement .rdCh14OffH := rfl
theorem TableRow.rdCh15OnL : TableRow.Statement .rdCh15OnL := rfl
theorem TableRow.rdCh15OnH : TableRow.Statement .rdCh15OnH := rfl
theorem TableRow.rdCh15OffL : TableRow.Statement .rdCh15OffL := rfl
theorem TableRow.rdCh15OffH : TableRow.Statement .rdCh15OffH := rfl
theorem TableRow.opOpen : TableRow.Statement .opOpen := rfl
theorem TableRow.opReset : TableRow.Statement .opReset := rfl
theorem TableRow.opWrch : TableRow.Statement .opWrch := rfl
theorem TableRow.opRdall : TableRow.Statement .opRdall := rfl
theorem TableRow.opPresc : TableRow.Statement .opPresc := rfl
theorem TableRow.opMap : TableRow.Statement .opMap := rfl
theorem TableRow.opCal : TableRow.Statement .opCal := rfl
theorem TableRow.opTick : TableRow.Statement .opTick := rfl
theorem TableRow.opRun : TableRow.Statement .opRun := rfl
theorem TableRow.opShutdown : TableRow.Statement .opShutdown := rfl

end Sys2Proof.Laws
end

