-- ==== Sys2Proof/Tests/Slice0.lean ====
section
/-! SUPPORT. Tests: expected values come from the spec's tables and worked vectors (30_encoding.md R104 to
R106, R110; 95_test_vectors.md), and for every obligation with hypotheses a witness that meets them. -/
namespace Sys2Proof.Tests

open Sys2Proof.Machine

set_option Elab.async false

/-! ### Well-formedness: one ill-formed term for each check (00_scope.md R8, R9) -/

theorem test_initial_config_wf : Config.initial.wf = true := by decide +kernel

theorem test_refuses_same_addresses :
    { Config.initial with swrstAddr := 0x40#7 }.violations = [.sameAddresses] := by decide +kernel

theorem test_refuses_channel_base_low :
    { Config.initial with chBase := 0x05#8 }.violations = [.channelBase] := by decide +kernel

theorem test_refuses_channel_base_high :
    { Config.initial with chBase := 0xBF#8 }.violations = [.channelBase] := by decide +kernel

theorem test_refuses_edge_offsets :
    { Config.initial with edgeOffset := ⟨0, 1, 1, 3⟩ }.violations = [.edgeOffsets] := by decide +kernel

theorem test_refuses_sleep_mask :
    { Config.initial with m1SleepMask := 0x00#8 }.violations = [.sleepMask] := by decide +kernel

theorem test_refuses_restart_mask :
    { Config.initial with m1RestartMask := 0x10#8, m1Run := 0x31#8 }.violations = [.restartMask] := by
  decide +kernel

theorem test_refuses_aar_mask :
    { Config.initial with m1AarMask := 0x31#8, m1Run := 0xB1#8 }.violations = [.aarMask] := by decide +kernel

theorem test_refuses_wake_byte :
    { Config.initial with m1Wake := 0x10#8, m1Run := 0xB1#8 }.violations = [.wakeByte] := by decide +kernel

theorem test_refuses_run_byte :
    { Config.initial with m1Run := 0x20#8 }.violations = [.runByte] := by decide +kernel

theorem test_refuses_frequency_23 :
    { Config.initial with freqHz := 23 }.violations = [.frequency] := by decide +kernel

theorem test_refuses_frequency_12208 :
    { Config.initial with freqHz := 12208 }.violations = [.frequency] := by decide +kernel

theorem test_refuses_nan_clearance :
    { Config.initial with minClearance := 0x7FF8000000000000#64 }.violations = [.clearance] := by
  decide +kernel

theorem test_refuses_cal_table :
    { Config.initial with cal := Vector.replicate 16 ⟨420, 420, false⟩ }.violations = [.calTable] := by
  decide +kernel

/-- 30_encoding.md R106: the two MODE1 writes are told apart only by their data (log 28). -/
theorem test_refuses_equal_mode1_bytes :
    Instr.wrMode1Run.wellFormed { Config.initial with m1Wake := 0xA1#8 } = false := by decide

/-! ### Decoding: every row's word, written out from the tables of 30_encoding.md -/

/-- What the decoder reads, under the defaults. -/
def readAs (w : PortWord) : Option Instr :=
  match decode Config.initial w with
  | .ok i => some i
  | .error _ => none

/-- A W2 frame to DEV_ADDR (R101). -/
def w2 (r v : Byte) : Option Instr := readAs (.frame 0x40#7 [r, v])

/-- The write transfer of an R1 frame (R102). -/
def r1 (r : Byte) : Option Instr := readAs (.frame 0x40#7 [r])

theorem test_decode_swrst : readAs (.frame 0x00#7 [0x06#8]) = some .swrst := by decide

theorem test_decode_mode_writes :
    [w2 0xFE 0x79, w2 0x00 0x00, w2 0x00 0xA1, w2 0x01 0x04] =
      [some (.wrPrescale 0x79), some .wrMode1Wake, some .wrMode1Run, some .wrMode2] := by decide

theorem test_decode_mode_reads :
    [r1 0x00, r1 0x01, r1 0xFE] = [some .rdMode1, some .rdMode2, some .rdPrescale] := by decide

theorem test_decode_commands :
    [0x01, 0x02, 0x03, 0x04, 0x05, 0x06, 0x07, 0x08, 0x09, 0x0A].map (fun c => readAs (.cmd c)) =
      [some .opOpen, some .opReset, some .opWrch, some .opRdall, some .opPresc, some .opMap,
        some .opCal, some .opTick, some .opRun, some .opShutdown] := by decide

/-- R104's examples: d = 260 is 0x04, 0x01; d = 4095 is 0xFF, 0x0F. -/
theorem test_edge_bytes :
    [edgeData 260 .offL, edgeData 260 .offH, edgeData 4095 .offL, edgeData 4095 .offH] =
      [0x04, 0x01, 0xFF, 0x0F] := by decide

/-- R104, R106, R107, R112, 10_state.md R37: what is no frame of the block, each by name. -/
theorem test_decode_refusals :
    [decode Config.initial (.cmd 0x00), decode Config.initial (.cmd 0x0B), decode Config.initial (.cmd 0x11),
      decode Config.initial (.frame 0x41 [0x00]), decode Config.initial (.frame 0x40 []),
      decode Config.initial (.frame 0x40 [0x06, 0x00, 0x00]), decode Config.initial (.frame 0x40 [0x00, 0x20]),
      decode Config.initial (.frame 0x40 [0x06, 0x01]), decode Config.initial (.frame 0x40 [0x09, 0x11]),
      decode Config.initial (.frame 0x40 [0x05, 0x00]), decode Config.initial (.frame 0x40 [0x46]),
      decode Config.initial (.frame 0x40 [0xFF])].map (fun d => match d with | .ok _ => none | .error e => some e) =
      [some .reservedCommand, some .reservedCommand, some .reservedCommand, some .notAFrame, some .notAFrame,
        some .notAFrame, some .modeByte, some .onEdgeNotZero, some .reservedHighBits,
        some .registerNotAccessed, some .registerNotAccessed, some .registerNotAccessed] := by decide

theorem test_decode_writes_0_to_3 :
    [w2 0x06 0x00, w2 0x07 0x00, w2 0x08 0xC4, w2 0x09 0x0B, w2 0x0A 0x00, w2 0x0B 0x00, w2 0x0C 0xC4, w2 0x0D 0x0B,
      w2 0x0E 0x00, w2 0x0F 0x00, w2 0x10 0xC4, w2 0x11 0x0B, w2 0x12 0x00, w2 0x13 0x00, w2 0x14 0xC4, w2 0x15 0x0B] =
      [some .wrCh0OnL, some .wrCh0OnH, some (.wrCh0OffL 0xC4), some (.wrCh0OffH 0xB),
      some .wrCh1OnL, some .wrCh1OnH, some (.wrCh1OffL 0xC4), some (.wrCh1OffH 0xB),
      some .wrCh2OnL, some .wrCh2OnH, some (.wrCh2OffL 0xC4), some (.wrCh2OffH 0xB),
      some .wrCh3OnL, some .wrCh3OnH, some (.wrCh3OffL 0xC4), some (.wrCh3OffH 0xB)] := by decide

theorem test_decode_writes_4_to_7 :
    [w2 0x16 0x00, w2 0x17 0x00, w2 0x18 0xC4, w2 0x19 0x0B, w2 0x1A 0x00, w2 0x1B 0x00, w2 0x1C 0xC4, w2 0x1D 0x0B,
      w2 0x1E 0x00, w2 0x1F 0x00, w2 0x20 0xC4, w2 0x21 0x0B, w2 0x22 0x00, w2 0x23 0x00, w2 0x24 0xC4, w2 0x25 0x0B] =
      [some .wrCh4OnL, some .wrCh4OnH, some (.wrCh4OffL 0xC4), some (.wrCh4OffH 0xB),
      some .wrCh5OnL, some .wrCh5OnH, some (.wrCh5OffL 0xC4), some (.wrCh5OffH 0xB),
      some .wrCh6OnL, some .wrCh6OnH, some (.wrCh6OffL 0xC4), some (.wrCh6OffH 0xB),
      some .wrCh7OnL, some .wrCh7OnH, some (.wrCh7OffL 0xC4), some (.wrCh7OffH 0xB)] := by decide

theorem test_decode_writes_8_to_11 :
    [w2 0x26 0x00, w2 0x27 0x00, w2 0x28 0xC4, w2 0x29 0x0B, w2 0x2A 0x00, w2 0x2B 0x00, w2 0x2C 0xC4, w2 0x2D 0x0B,
      w2 0x2E 0x00, w2 0x2F 0x00, w2 0x30 0xC4, w2 0x31 0x0B, w2 0x32 0x00, w2 0x33 0x00, w2 0x34 0xC4, w2 0x35 0x0B] =
      [some .wrCh8OnL, some .wrCh8OnH, some (.wrCh8OffL 0xC4), some (.wrCh8OffH 0xB),
      some .wrCh9OnL, some .wrCh9OnH, some (.wrCh9OffL 0xC4), some (.wrCh9OffH 0xB),
      some .wrCh10OnL, some .wrCh10OnH, some (.wrCh10OffL 0xC4), some (.wrCh10OffH 0xB),
      some .wrCh11OnL, some .wrCh11OnH, some (.wrCh11OffL 0xC4), some (.wrCh11OffH 0xB)] := by decide

theorem test_decode_writes_12_to_15 :
    [w2 0x36 0x00, w2 0x37 0x00, w2 0x38 0xC4, w2 0x39 0x0B, w2 0x3A 0x00, w2 0x3B 0x00, w2 0x3C 0xC4, w2 0x3D 0x0B,
      w2 0x3E 0x00, w2 0x3F 0x00, w2 0x40 0xC4, w2 0x41 0x0B, w2 0x42 0x00, w2 0x43 0x00, w2 0x44 0xC4, w2 0x45 0x0B] =
      [some .wrCh12OnL, some .wrCh12OnH, some (.wrCh12OffL 0xC4), some (.wrCh12OffH 0xB),
      some .wrCh13OnL, some .wrCh13OnH, some (.wrCh13OffL 0xC4), some (.wrCh13OffH 0xB),
      some .wrCh14OnL, some .wrCh14OnH, some (.wrCh14OffL 0xC4), some (.wrCh14OffH 0xB),
      some .wrCh15OnL, some .wrCh15OnH, some (.wrCh15OffL 0xC4), some (.wrCh15OffH 0xB)] := by decide

theorem test_decode_reads_0_to_3 :
    [r1 0x06, r1 0x07, r1 0x08, r1 0x09, r1 0x0A, r1 0x0B, r1 0x0C, r1 0x0D,
      r1 0x0E, r1 0x0F, r1 0x10, r1 0x11, r1 0x12, r1 0x13, r1 0x14, r1 0x15] =
      [some .rdCh0OnL, some .rdCh0OnH, some .rdCh0OffL, some .rdCh0OffH,
      some .rdCh1OnL, some .rdCh1OnH, some .rdCh1OffL, some .rdCh1OffH,
      some .rdCh2OnL, some .rdCh2OnH, some .rdCh2OffL, some .rdCh2OffH,
      some .rdCh3OnL, some .rdCh3OnH, some .rdCh3OffL, some .rdCh3OffH] := by decide

theorem test_decode_reads_4_to_7 :
    [r1 0x16, r1 0x17, r1 0x18, r1 0x19, r1 0x1A, r1 0x1B, r1 0x1C, r1 0x1D,
      r1 0x1E, r1 0x1F, r1 0x20, r1 0x21, r1 0x22, r1 0x23, r1 0x24, r1 0x25] =
      [some .rdCh4OnL, some .rdCh4OnH, some .rdCh4OffL, some .rdCh4OffH,
      some .rdCh5OnL, some .rdCh5OnH, some .rdCh5OffL, some .rdCh5OffH,
      some .rdCh6OnL, some .rdCh6OnH, some .rdCh6OffL, some .rdCh6OffH,
      some .rdCh7OnL, some .rdCh7OnH, some .rdCh7OffL, some .rdCh7OffH] := by decide

theorem test_decode_reads_8_to_11 :
    [r1 0x26, r1 0x27, r1 0x28, r1 0x29, r1 0x2A, r1 0x2B, r1 0x2C, r1 0x2D,
      r1 0x2E, r1 0x2F, r1 0x30, r1 0x31, r1 0x32, r1 0x33, r1 0x34, r1 0x35] =
      [some .rdCh8OnL, some .rdCh8OnH, some .rdCh8OffL, some .rdCh8OffH,
      some .rdCh9OnL, some .rdCh9OnH, some .rdCh9OffL, some .rdCh9OffH,
      some .rdCh10OnL, some .rdCh10OnH, some .rdCh10OffL, some .rdCh10OffH,
      some .rdCh11OnL, some .rdCh11OnH, some .rdCh11OffL, some .rdCh11OffH] := by decide

theorem test_decode_reads_12_to_15 :
    [r1 0x36, r1 0x37, r1 0x38, r1 0x39, r1 0x3A, r1 0x3B, r1 0x3C, r1 0x3D,
      r1 0x3E, r1 0x3F, r1 0x40, r1 0x41, r1 0x42, r1 0x43, r1 0x44, r1 0x45] =
      [some .rdCh12OnL, some .rdCh12OnH, some .rdCh12OffL, some .rdCh12OffH,
      some .rdCh13OnL, some .rdCh13OnH, some .rdCh13OffL, some .rdCh13OffH,
      some .rdCh14OnL, some .rdCh14OnH, some .rdCh14OffL, some .rdCh14OffH,
      some .rdCh15OnL, some .rdCh15OnH, some .rdCh15OffL, some .rdCh15OffH] := by decide

/-- The table's own numbering: a W2 word is `reg ++ data` (R101), an 8-bit word an operation code or an R1
frame (log 16). -/
theorem test_decode_table_words :
    [decodeTableWord 16 0xFE79, decodeTableWord 16 0x0901, decodeTableWord 8 0x45, decodeTableWord 8 0x06,
      decodeTableWord 8 0xFE, decodeTableWord 16 0x0911] =
      [some (.wrPrescale 0x79), some (.wrCh0OffH 0x1), some .rdCh15OffH, some .opMap, some .rdPrescale,
        none] := by decide

/-! ### Steps on small states, against the spec's vectors -/

/-- An open block with a chip as OPEN leaves it (95_test_vectors.md V-OPEN). -/
def ready : State :=
  { State.reset with
    handle := some ⟨0, 0x79⟩
    chip := ⟨[(0, 0xA1), (1, 0x04), (0xFE, 0x79)], false, 1⟩ }

/-- The same with the chip as SWRST leaves it. -/
def asleep : State := { ready with chip := ⟨[], true, 1⟩ }

/-- One field of the next state. -/
def after {α : Type} (o : Host.Outcome State Fault Refusal) (f : State → α) : Option α :=
  match o with
  | .next t => some (f t)
  | .fault _ => none
  | .refused _ => none

/-- Why the machine stops, if it does. -/
def stopOf (o : Host.Outcome State Fault Refusal) : Option (Fault ⊕ Refusal) :=
  match o with
  | .next _ => none
  | .fault f => some (.inl f)
  | .refused r => some (.inr r)

/-- The environment in which the bus answers `ok` for `k` transfers and then `fail` once. -/
def failingAt (k delivered : Nat) (s : State) : State :=
  { s with env := { s.env with bus := ⟨List.replicate k (.got .ok) ++ [.got (.fail delivered)], .got .ok⟩ } }

/-- V-OPEN: the trace with the default CFG and 50 Hz. -/
theorem test_open_trace : after (exec .opOpen State.reset) (·.tr) =
    some [.busOpen true, .busW 0x00 [0x06] true, .delay .settle, .busW 0x40 [0xFE, 0x79] true,
      .busW 0x40 [0x00, 0x00] true, .delay .wake, .busW 0x40 [0x00, 0xA1] true,
      .busW 0x40 [0x01, 0x04] true] := by decide +kernel

/-- V-WRCH: `WRCH 0, 260`. -/
theorem test_wrch_trace : after (exec .opWrch { ready with argCh := 0, argDuty := 260 }) (·.tr) =
    some [.busW 0x40 [0x06, 0x00] true, .busW 0x40 [0x07, 0x00] true, .busW 0x40 [0x08, 0x04] true,
      .busW 0x40 [0x09, 0x01] true] := by decide +kernel

/-- R144: a channel of 16 is rejected with info 0x0010 before any I/O. -/
theorem test_wrch_channel_16 :
    after (exec .opWrch { ready with argCh := 16, argDuty := 260 }) (fun t => (t.err, t.tr)) =
      some (⟨4, 0x0010⟩, []) := by decide +kernel

/-- V-PRESC: 50, 60, 200 and 1000 Hz, and the ends of the range. -/
theorem test_presc_values : [50, 60, 200, 1000, 24, 12207].map
      (fun f => after (exec .opPresc { ready with argFreq := f }) (·.resPresc)) =
    [some 121, some 101, some 30, some 5, some 253, some 0] := by decide +kernel

theorem test_presc_rejects : [0, 23, 12208].map
      (fun f => after (exec .opPresc { ready with argFreq := f }) (·.err)) =
    [some ⟨4, 0x0200⟩, some ⟨4, 0x0200⟩, some ⟨4, 0x0200⟩] := by decide +kernel

/-- V-MAP and R184(b): the worked example, its inverse's ends, and the tie that goes up. -/
theorem test_map_values : [(0, 0x3F000000), (1, 0x00000000), (1, 0x3F800000), (2, 0x3F000000), (0, 0x80000000)].map
      (fun (p : Byte × F32) => after (exec .opMap { ready with argCh := p.1, argFrac := p.2 }) (·.resDuty)) =
    [some 260, some 420, some 100, some 261, some 100] := by decide +kernel

/-- R183: the words just outside, a NaN, an infinity; the channel before the fraction. -/
theorem test_map_rejects : [(0, 0x3F800001), (0, 0x80000001), (3, 0x7FC00000), (3, 0xFF800000), (16, 0x7FC00000)].map
      (fun (p : Byte × F32) => after (exec .opMap { ready with argCh := p.1, argFrac := p.2 }) (·.err)) =
    [some ⟨4, 0x0100⟩, some ⟨4, 0x0100⟩, some ⟨4, 0x0103⟩, some ⟨4, 0x0103⟩, some ⟨4, 0x0010⟩] := by
  decide +kernel

/-- V-CAL: how many events a successful handshake leaves, and where it ends. -/
theorem test_cal_done :
    after (exec .opCal ready) (fun t => (t.mcs, t.tr.length, t.calAttempted, t.gpioSetting)) =
      some (.done, 29, true, ⟨false, .unknown⟩) := by decide +kernel

/-- R209: the second write of the first MotorWrite fails: the bus error is the one reported. -/
theorem test_cal_bus_failure :
    after (exec .opCal (failingAt 1 0 ready)) (fun t => (t.mcs, t.err, t.gpioSetting.held, t.tr.getLast?)) =
      some (.notStarted, ⟨1, 0x0007⟩, false, some (.log .calAbort 0x0007)) := by decide +kernel

/-- R236: an invalid snapshot (all zero) sends nothing. -/
theorem test_tick_invalid : after (exec .opTick ready) (·.tr) =
    some [.sense 0x4059000000000000, .semAcq, .semRel, .delay .tick] := by decide +kernel

/-- R234: a clearance below 30.0 cm forces the motor channel to neutral and nothing else. -/
theorem test_tick_override :
    after (exec .opTick { ready with env := { ready.env with sensor := ⟨[], .got 0x0000000000000000⟩ } }) (·.tr) =
      some [.sense 0, .log .uncal 0, .busW 0x40 [0x06, 0x00] true, .busW 0x40 [0x07, 0x00] true,
        .busW 0x40 [0x08, 0x04] true, .busW 0x40 [0x09, 0x01] true, .delay .tick] := by decide +kernel

/-- R240: the trace of SHUTDOWN. -/
theorem test_shutdown_trace : after (exec .opShutdown ready) (fun t => (t.tr, t.seq.phase, t.handle)) =
    some ([.busW 0x00 [0x06] true, .delay .settle, .busClose, .exit 0], .halted 0, none) := by decide +kernel

/-- R230, R244: a RUN whose reset fails ends in Halted(1). -/
theorem test_run_fatal : after (exec .opRun (failingAt 0 0 State.reset)) (fun t => (t.tr, t.seq.phase)) =
    some ([.busOpen true, .busW 0x00 [0x06] false, .busClose, .log .fatal 2, .exit 1], .halted 1) := by
  decide +kernel

/-- R143: RESET with the defaults. -/
theorem test_reset_trace : after (exec .opReset ready) (fun t => (t.tr, t.handle.isSome)) =
    some ([.busW 0x00 [0x06] true, .delay .settle], true) := by decide +kernel

/-- R145: a read whose data phase fails on MODE2 leaves RES_SNAP unwritten. -/
theorem test_rdall_failure : after (exec .opRdall (failingAt 3 0 ready)) (fun t => (t.err, t.resSnapWritten)) =
    some (⟨1, 0x0201⟩, false) := by decide +kernel

/-- R145, U5: an RDALL leaves the chip as it is, draws included. -/
theorem test_rdall_chip : after (exec .opRdall ready) (fun t => decide (t.chip = ready.chip)) = some true := by
  decide +kernel

/-- V-ENC row 25: PRESCALE 0x79 is 50.03 Hz, to two decimals. -/
theorem test_pwm_frequency :
    (100050 / 2000 : ℚ) < pwmFrequency 0x79 ∧ pwmFrequency 0x79 < (100070 / 2000 : ℚ) := by decide +kernel

/-- R64, R65 as frames: the byte stands in the register and is read back. -/
theorem test_frame_write : after (exec (.wrCh0OffL 0x04) ready) (·.chip.regs) =
    some [(0, 0xA1), (1, 0x04), (8, 0x04), (0xFE, 0x79)] := by decide +kernel

theorem test_frame_read : after (exec .rdPrescale ready) (·.tr) =
    some [.busW 0x40 [0xFE] true, .busR 0x40 1 (some [0x79])] := by decide +kernel

/-- R322: PRESCALE while the chip is awake. -/
theorem test_prescale_awake : stopOf (exec (.wrPrescale 0x79) ready) = some (.inl .prescaleWhileActive) := by
  decide +kernel

/-- R310: a program comes to run through the inputs; nothing runs from reset by itself. -/
theorem test_reset_idle : after (step State.reset) (fun t => decide (t = State.reset)) = some true := by
  decide +kernel

theorem test_fetch_runs :
    after (step (State.reset.withFetchWord 8 0x01)) (fun t => (t.cmd, t.handle.isSome, t.inbox)) =
      some (0x01, true, []) := by decide +kernel

/-! ### Witnesses: a state and operands that meet each obligation's hypotheses -/

theorem witness_DecodeEncodeAgree :
    Config.initial.wf = true ∧ Instr.wrMode1Run.wellFormed Config.initial = true := by decide +kernel

theorem witness_DecodedWordIsItsEncoding :
    decode Config.initial (.frame 0x40 [0x45, 0x0F]) = .ok (.wrCh15OffH 0xF) := rfl

theorem witness_EdgeAddressNamesItsRegister :
    { Config.initial with chBase := 0xBE }.wf = true ∧
      edgeAddr { Config.initial with chBase := 0xBE } 15 .offH = 0xFD := by decide +kernel

theorem witness_BlockResetGivesResetState :
    ready.cfg.wf = true ∧ { ready with inbox := [⟨true, .blockReset⟩] }.inbox = ⟨true, .blockReset⟩ :: [] := by decide +kernel

theorem witness_ResultReadNeedsItsOperation :
    ∀ r, ready.cfg.wf = true ∧ ready.runActive = false ∧
      resultWritten r { ready with inbox := [⟨false, .readResult r⟩] } = false ∧
      resultWritten r { ready with resDutyWritten := true, resPrescWritten := true, resSnapWritten := true } = true := by
  intro r; cases r <;> decide +kernel

theorem witness_StepRunsDecodedInstruction :
    let s := { ready with inbox := [⟨false, .issue (.cmd 0x05)⟩] }
    s.cfg.wf = true ∧ s.inbox = ⟨false, .issue (.cmd 0x05)⟩ :: [] ∧ portAccepts s = true ∧
      readAs (.cmd 0x05) = some .opPresc := by decide +kernel

theorem witness_ArgWritesChangeOneRegister :
    ∀ a : PortAction, let s := { ready with inbox := [⟨false, a⟩] }
    s.cfg.wf = true ∧ portAccepts s = true ∧ s.inbox = ⟨false, a⟩ :: [] := fun _ => ⟨show ready.cfg.wf = true by decide +kernel, rfl, rfl⟩

theorem witness_IllFormedConfigAndSensorTestRefused :
    { Config.initial with freqHz := 0 }.wf = false ∧ { ready with argMode := 2 }.argMode = 2 := by decide +kernel

theorem witness_HaltedAcceptsNoOperation :
    let s := { State.reset with seq := ⟨.halted 1, 0⟩, inbox := [⟨true, .issue (.cmd 0x01)⟩] }
    s.cfg.wf = true ∧ s.seq.phase = .halted 1 ∧ s.runActive = false ∧ nextAction s ≠ .blockReset ∧
      nextAction s = .issue (.cmd 0x01) := by decide +kernel

theorem witness_RunInProgressOnlyTicks :
    let s := { ready with seq := ⟨.running, 0⟩, runActive := true, err := ⟨5, 0x0100⟩ }
    s.cfg.wf = true ∧ s.runActive = true ∧ nextAction s ≠ .blockReset ∧
      after (exec .opTick (takeInput s)) (fun u => u.err.code) = some 0 ∧
      after (exec .opTick (takeInput { s with term := true, env := (failingAt 0 0 ready).env }))
        (fun u => u.err.code) = some 2 ∧
      stopOf (exec .opTick (takeInput { s with env := { s.env with shm := ⟨[], .hang⟩ } })) =
        some (.inl (.blocked .semaphore)) := by decide +kernel

theorem witness_ReservedCommandsRefused :
    ready.cfg.wf = true ∧ portAccepts ready = true ∧
      ([0x00, 0x0B, 0x0F, 0x10, 0xFF].all fun (c : Byte) => decide (c.extractLsb' 4 4 ≠ 0#4 ∨
        c.extractLsb' 0 4 = 0#4 ∨ 0xB ≤ (c.extractLsb' 0 4).toNat)) = true ∧
      (0x1000#16).extractLsb' 12 4 ≠ 0#4 ∧ { ready with argMode := 3 }.argMode = 3 := by decide +kernel

theorem witness_WriteFramesStoreTheirByte :
    asleep.cfg.wf = true ∧ WriteRow asleep.cfg (.wrPrescale 0xFF) regPrescale 0xFF ∧
      WriteRow ready.cfg (edgeWriteInstr 15 .offH 0xFFF) (edgeAddr ready.cfg 15 .offH) (edgeData 0xFFF .offH) ∧
      asleep.handle = some ⟨0, 0x79⟩ ∧ asleep.chip.lowPower asleep.cfg = some true ∧
      asleep.env.busOkFor 1 = true :=
  ⟨by decide +kernel, .prescale _, .edge _ _ _, rfl, by decide +kernel, by decide +kernel⟩

theorem witness_FailedWriteFramesRaise :
    WriteRow ready.cfg .wrMode1Run regMode1 ready.cfg.m1Run ∧ ready.handle = some ⟨0, 0x79⟩ ∧
      (failingAt 0 1 ready).env.busFailsAt 0 1 = true ∧ (failingAt 0 2 ready).env.busFailsAt 0 2 = true :=
  ⟨.mode1Run, rfl, by decide +kernel, by decide +kernel⟩

theorem witness_PrescaleWriteWhileActiveFaults :
    ready.cfg.wf = true ∧ ready.handle = some ⟨0, 0x79⟩ ∧ ready.env.busOkFor 1 = true ∧
      ready.chip.lowPower ready.cfg ≠ some true ∧ Chip.powerOn.lowPower ready.cfg ≠ some true := by decide +kernel

theorem witness_ReadFramesAnswerTheRegister :
    ReadRow ready.cfg .rdPrescale regPrescale ∧ ready.handle = some ⟨0, 0x79⟩ ∧
      ready.env.busOkFor 2 = true ∧ ready.chip.regs.read regPrescale.toNat = some 0x79 :=
  ⟨.prescale, rfl, by decide +kernel, by decide +kernel⟩

theorem witness_FailedReadFramesRaise :
    ReadRow ready.cfg .rdCh0OnL (edgeAddr ready.cfg 0 .onL) ∧
      (failingAt 0 0 ready).env.busFailsAt 0 0 = true ∧ (failingAt 1 0 ready).env.busFailsAt 1 0 = true :=
  ⟨.edge 0 .onL, by decide +kernel, by decide +kernel⟩

theorem witness_ReadAfterWriteAnswersTheByte :
    WriteRow ready.cfg .wrMode2 regMode2 0x04 ∧ ReadRow ready.cfg .rdMode2 regMode2 ∧
      ready.env.busOkFor 3 = true ∧ ∃ t, exec .wrMode2 ready = .next t :=
  ⟨.mode2, .mode2, by decide +kernel, _, rfl⟩

theorem witness_SwrstResetsTheChip :
    ready.handle = some ⟨0, 0x79⟩ ∧ ready.env.busOkFor 1 = true ∧
      (failingAt 0 0 ready).env.busFailsAt 0 0 = true ∧ (failingAt 0 1 ready).env.busFailsAt 0 1 = true := by decide +kernel

theorem witness_BusNeedsAnOpenHandle :
    State.reset.handle = none ∧ State.reset.argDuty.extractLsb' 12 4 = 0#4 ∧ State.reset.mcs ≠ .done ∧
      State.reset.cfg.requiresHandshake = true := by decide +kernel

theorem witness_PrescComputesThePrescale :
    [24, 12207].all (fun (f : BitVec 32) => decide (24 ≤ f.toNat ∧ f.toNat ≤ 12207)) = true ∧
      [0, 23, 12208].all (fun (f : BitVec 32) => decide (f.toNat < 24 ∨ 12207 < f.toNat)) = true := by decide +kernel

theorem witness_MapComputesTheDuty :
    let s := { ready with argCh := 15, argFrac := oneWord }
    s.cfg.wf = true ∧ s.argCh.toNat = (15 : Channel).val ∧ f32Value s.argFrac = .finite (2 ^ 149) ∧
      f32Value zeroWord = .finite 0 := by decide +kernel

theorem witness_MapRejectsOutOfRange :
    15 < (16 : Byte).toNat ∧ (15 : Byte).toNat ≤ 15 ∧ (0x3F800000 : F32).toNat ≤ 0x3F800000 ∧
      ¬ ((0x3F800001 : F32).toNat ≤ 0x3F800000 ∨ (0x3F800001 : F32) = 0x80000000) ∧
      ¬ ((0x80000001 : F32).toNat ≤ 0x3F800000 ∨ (0x80000001 : F32) = 0x80000000) := by decide +kernel

theorem witness_MapLawsHold :
    let e : CalEntry := ⟨0, 4095, true⟩
    e.minCount.toNat < e.maxCount.toNat ∧ mapDuty e zeroWord = some 4095 ∧ mapDuty e oneWord = some 0 ∧
      f32Value zeroWord = .finite 0 ∧ f32Value oneWord = .finite (2 ^ 149) := by decide +kernel

theorem witness_OpenConfiguresTheChip :
    ready.cfg.wf = true ∧ ready.env.storage.head = true ∧ ready.env.busOpen.head = some 0 ∧
      ready.env.busOkFor 5 = true := by decide +kernel

theorem witness_OpenFailsBeforeConfiguring :
    ({ storage := ⟨[false], true⟩, busOpen := ⟨[], none⟩, bus := Env.initial.bus, gpio := Env.initial.gpio,
        release := Env.initial.release,
        sensor := Env.initial.sensor, shm := Env.initial.shm : Env }).storage.head = false ∧
      (⟨[], none⟩ : Draws (Option Nat)).head = none ∧ (failingAt 0 1 ready).env.busFailsAt 0 1 = true ∧
      (failingAt 0 1 ready).env.storage.head = true ∧ (failingAt 0 1 ready).env.busOpen.head = some 0 := by decide +kernel

theorem witness_OpenFailsWhileConfiguring :
    [0, 1, 2, 3].all (fun k => [0, 2].all fun n => let s := failingAt (k + 1) n ready
      s.cfg.wf && (prescaleOf s.cfg.freqHz == some 0x79) && s.env.storage.head &&
        (s.env.busOpen.head == some 0) && ((openWrites s.cfg 0x79)[k]?).isSome &&
        s.env.busFailsAt (k + 1) n) = true := by decide +kernel

theorem witness_ResetSendsTheBroadcast :
    ready.cfg.wf = true ∧ ready.handle = some ⟨0, 0x79⟩ ∧ ready.env.busOkFor 1 = true ∧
      (failingAt 0 1 ready).env.busFailsAt 0 1 = true := by decide +kernel

theorem witness_WrchWritesFourRegistersInOrder :
    [0, 15].all (fun c => let s := { ready with argCh := c, argDuty := 0x0FFF }
      s.cfg.wf && decide (s.argCh.toNat < 16) && (s.argDuty.extractLsb' 12 4 == 0#4) && s.handle.isSome &&
        s.env.busOkFor 4) = true := by decide +kernel

theorem witness_WrchStopsAtTheFailedWrite :
    [0, 1, 2, 3].all (fun k => let s := failingAt k 2 { ready with argCh := 15, argDuty := 0x0FFF }
      s.cfg.wf && s.handle.isSome && (s.argCh.toNat == 15) && (edgeOrder[k]?).isSome &&
        s.env.busFailsAt k 2) = true := by decide +kernel

theorem witness_WrchRejectsTheChannel :
    ready.handle = some ⟨0, 0x79⟩ ∧ ready.argDuty.extractLsb' 12 4 = 0#4 ∧ 15 < (16 : Byte).toNat ∧
      15 < (255 : Byte).toNat := by decide +kernel

theorem witness_WrittenChannelDrivesItsDuty :
    ready.cfg.wf = true ∧ ready.chip.resetMode1 = false ∧ ready.chip.configured ready.cfg = true := by
  decide +kernel

/-- R72, R108: a channel that held a duty and is written with count 0 reads back as count 0. -/
theorem test_channel_zero_reads_back :
    let chip := { ready.chip with regs := wrchRegs ready.cfg 3 0 (wrchRegs ready.cfg 3 0xFFF ready.chip.regs) }
    edgeOrder.map (fun x => chip.load ready.cfg (edgeAddr ready.cfg 3 x)) = [0, 0, 0, 0] := by decide +kernel

theorem witness_RdallReadsEveryRegister :
    ready.cfg.wf = true ∧ ready.handle = some ⟨0, 0x79⟩ ∧ ready.env.busOkFor 134 = true ∧
      (readAllOrder ready.cfg)[2]? = some 0xFE ∧ ready.chip.regs.read 0xFE = some 0x79 := by decide +kernel

theorem witness_RdallKeepsResultOnError :
    [0, 66].all (fun k => let s := failingAt (2 * k) 0 ready
      let u := failingAt (2 * k + 1) 0 ready
      s.cfg.wf && s.handle.isSome && ((readAllOrder s.cfg)[k]?).isSome && s.env.busFailsAt (2 * k) 0 &&
        u.env.busFailsAt (2 * k + 1) 0 && s.env.responsive) = true := by decide +kernel

theorem witness_CalWithoutHandshakeTrustsAtOnce :
    { Config.initial with requiresHandshake := false }.requiresHandshake = false ∧ State.reset.mcs ≠ .done := by decide +kernel

theorem witness_CalWhenDoneDoesNothing :
    { ready with mcs := .done }.mcs = .done := by decide +kernel

theorem witness_CalHandshakeRunsFiveTransitions :
    [true, false].all (fun p => let s := { ready with cfg := { ready.cfg with powerLinePresent := p } }
      s.cfg.wf && s.handle.isSome && decide (s.mcs ≠ .done) && s.cfg.requiresHandshake &&
        s.env.busOkFor 12 && s.env.gpioOkFor (calGpioActions s.cfg) &&
        s.env.releasesFor (calReleases s.cfg)) = true := by decide +kernel

theorem witness_CalTraceOfTheWorkedExample :
    ready.cfg.wf = true ∧ ready.handle = some ⟨0, 0x79⟩ ∧ ready.mcs = .notStarted ∧
      ready.cfg.requiresHandshake = true ∧ ready.cfg.gpioTransient = true ∧ ready.cfg.motorCh = 0 ∧
      ready.cfg.cal.get 0 = ⟨100, 420, false⟩ ∧ ready.cfg.chBase = 0x06 ∧
      ready.cfg.edgeOffset = ⟨0, 1, 2, 3⟩ ∧ ready.env.busOkFor 12 = true ∧ ready.env.gpioOkFor 11 = true ∧
      ready.env.releasesFor 2 = true := by decide +kernel

theorem witness_CalEndsDoneOrAborted :
    let s := failingAt 5 1 ready
    s.cfg.wf = true ∧ s.handle = some ⟨0, 0x79⟩ ∧ s.mcs ≠ .done ∧ s.cfg.requiresHandshake = true ∧
      s.env.responsive = true := by decide +kernel

/-- A block with a power line whose lines answer `ok` for `g` actions and then `fail` once. -/
def gpioFailingAt (g : Nat) : State :=
  { ready with
    cfg := { ready.cfg with powerLinePresent := true }
    env := { ready.env with gpio := ⟨List.replicate g (.got true) ++ [.got false], .got true⟩ } }

/-- The same block with a release that, after `j` that return, never does. -/
def releaseHangingAt (j : Nat) (s : State) : State :=
  { s with env := { s.env with release := ⟨List.replicate j (.got ()), .hang⟩ } }

theorem witness_CalAbortsAtTheFailedAction :
    [(0, 0), (1, 1), (2, 2), (3, 3), (5, 4), (26, 9), (28, 10)].all (fun (k, g) =>
      let s := gpioFailingAt g
      ((calActions s.cfg)[k]?).any (calFailsAt s.cfg k 0 · s.env) && s.cfg.wf && s.handle.isSome &&
        decide (s.mcs ≠ .done) && s.cfg.requiresHandshake && !s.gpioSetting.held && !s.gpioPower.held &&
        s.env.releasesFor (((calActions s.cfg).take k).countP CalAction.isRequest)) = true ∧
    [(2, 2, 0), (5, 4, 1)].all (fun (k, g, j) =>
      let s := releaseHangingAt j (gpioFailingAt g)
      ((calActions s.cfg)[k]?).any (calFailsAt s.cfg k 0 · s.env) && s.env.releaseHangsAt j &&
        decide (j < ((calActions s.cfg).take k).countP CalAction.isRequest)) = true ∧
    [(4, 0, 0), (6, 2, 1), (23, 11, 2)].all (fun (k, b, n) =>
      let s := failingAt b n ready
      ((calActions s.cfg)[k]?).any (calFailsAt s.cfg k n · s.env)) = true := by decide +kernel

/-- A snapshot that is valid, with channel 0 active at 1.0, channel 1 inactive and channel 2 out of range. -/
def validSnapshot : Snapshot where
  valid := 1
  ch := (Vector.replicate 16 ⟨0, 0⟩).set 0 ⟨1, 0x3F800000⟩ |>.set 2 ⟨1, 0x40000000⟩

/-- An open block whose next tick reads that snapshot. -/
def ticking : State := { ready with env := { ready.env with shm := ⟨[], .got validSnapshot⟩ } }

theorem witness_TickOverrideWritesOnlyNeutral :
    let s := { ready with env := { ready.env with sensor := ⟨[], .got 0⟩ } }
    (s.cfg.wf = true ∧ s.handle = some ⟨0, 0x79⟩ ∧ s.term = false ∧ s.cfg.sensorConfigured = true ∧
      s.env.sensor.head = .got 0 ∧ below 0 s.cfg.minClearance = true ∧ s.env.busOkFor 4 = true) ∧
    [(Edge.onL, 0), (.offH, 2)].all (fun (x, n) => let u := failingAt (writesBefore x) n s
      (u.env.sensor.head == .got 0) && u.env.busFailsAt (writesBefore x) n) = true := by decide +kernel

theorem witness_TickInvalidSnapshotSendsNothing :
    ready.handle = some ⟨0, 0x79⟩ ∧ ready.term = false ∧ ready.cfg.sensorConfigured = true ∧
      ready.env.sensor.head = .got 0x4059000000000000 ∧
      below 0x4059000000000000 ready.cfg.minClearance = false ∧
      ready.env.shm.head = .got Snapshot.zero ∧ Snapshot.zero.valid = 0 := by decide +kernel

/-- The third write of channel 1 fails after one byte. -/
def oneFailure : TickFailures := fun c => if c = 1 then some ⟨.offL, 1⟩ else none

theorem witness_TickActuatesEveryChannel :
    (ticking.cfg.wf = true ∧ ticking.handle = some ⟨0, 0x79⟩ ∧ ticking.term = false ∧
      ticking.env.sensor.head = .got 0x4059000000000000 ∧
      below 0x4059000000000000 ticking.cfg.minClearance = false ∧
      ticking.env.shm.head = .got validSnapshot ∧ validSnapshot.valid ≠ 0 ∧
      tickAnswers ticking.cfg validSnapshot noFailures channels ticking.env = true ∧
      tickAnswers ticking.cfg validSnapshot oneFailure channels (failingAt 6 1 ticking).env = true) ∧
    ¬ startsCal ticking validSnapshot ∧
    ¬ startsCal { ticking with cfg := { ticking.cfg with calPolicy := .onFirstMotorWrite, motorCh := 2 } }
      validSnapshot :=
  ⟨by decide +kernel, fun h => absurd h.2.1 (by decide), fun h => absurd h.2.2.2 (by decide +kernel)⟩

theorem witness_TickLeavesEachChannelItsDuty :
    tickDuty Config.initial validSnapshot 0 = some 420 ∧ oneFailure 0 = none ∧
      tickDuty Config.initial validSnapshot 1 = some 260 ∧ oneFailure 1 = some ⟨.offL, 1⟩ ∧
      (validSnapshot.ch.get 1).active = 0 ∧ (validSnapshot.ch.get 0).active ≠ 0 ∧
      tickDuty Config.initial validSnapshot 2 = none := by decide +kernel

theorem witness_TickCalibratesOnFirstMotorWrite :
    [true, false].all (fun q =>
      let s := { ticking with
        cfg := { ticking.cfg with calPolicy := .onFirstMotorWrite, requiresHandshake := q } }
      s.cfg.wf && s.handle.isSome && !s.term && (s.env.sensor.head == .got 0x4059000000000000) &&
        !below 0x4059000000000000 s.cfg.minClearance && (s.env.shm.head == .got validSnapshot) &&
        (validSnapshot.valid != 0) && (s.cfg.calPolicy == .onFirstMotorWrite) && decide (s.mcs ≠ .done) &&
        !s.calAttempted && (tickDuty s.cfg validSnapshot s.cfg.motorCh).isSome &&
        s.env.busOkFor (lazyTickTransfers s.cfg validSnapshot) &&
        s.env.gpioOkFor (lazyTickGpioActions s.cfg) &&
        s.env.releasesFor (lazyTickReleases s.cfg)) = true := by decide +kernel

/-- A block whose tick comes to the motor channel 3 after a failed write of channel 1, CAL due. -/
def comingToMotor (gpio : Draws (Reply Bool)) : State :=
  { failingAt 6 1 ticking with
    cfg := { ticking.cfg with calPolicy := .onFirstMotorWrite, motorCh := 3 }
    env := { (failingAt 6 1 ticking).env with gpio := gpio } }

theorem witness_TickCalibratesWhateverCalComesTo :
    [((⟨[.got true, .got false], .got true⟩ : Draws (Reply Bool)), Mcs.notStarted, (5 : BitVec 3)),
      (⟨[], .got true⟩, .done, 0)].all
      (fun (g, m, code) =>
        let s := comingToMotor g
        s.cfg.wf && s.handle.isSome && !s.term && (s.env.sensor.head == .got 0x4059000000000000) &&
          !below 0x4059000000000000 s.cfg.minClearance && (s.env.shm.head == .got validSnapshot) &&
          (validSnapshot.valid != 0) && (s.cfg.calPolicy == .onFirstMotorWrite) &&
          decide (s.mcs ≠ .done) && !s.calAttempted &&
          (tickDuty s.cfg validSnapshot s.cfg.motorCh).isSome &&
          tickAnswers s.cfg validSnapshot oneFailure (channels.take 3) s.env &&
          (after (exec .opCal (atMotorChannel s 0x4059000000000000 validSnapshot oneFailure)) (fun u =>
            (u.mcs == m) && (u.err.code == code) &&
              tickAnswers s.cfg validSnapshot oneFailure (channels.drop 3) u.env) == some true)) = true ∧
    stopOf (exec .opCal (atMotorChannel (comingToMotor ⟨[], .hang⟩)
      0x4059000000000000 validSnapshot oneFailure)) = some (.inl (.blocked .gpio)) := by decide +kernel

/-- V-TICK 15: a tick whose first request of the setting line is refused absorbs the abort, logs the motor
channel as uncalibrated and writes it all the same. -/
theorem test_tick_cal_aborted :
    after (exec .opTick { ticking with
        cfg := { ticking.cfg with calPolicy := .onFirstMotorWrite }
        env := { ticking.env with gpio := ⟨[.got false], .got true⟩, shm := ⟨[], .got { validSnapshot with
          ch := Vector.replicate 16 ⟨0, 0x3F800000⟩ }⟩ } })
      (fun t => ((t.tr.drop 3).take 7, t.err, t.calAttempted, t.mcs)) =
      some ([.gpioReq .setting false, .log .calAbort 0x0100, .log .uncal 0, .busW 0x40 [0x06, 0x00] true,
        .busW 0x40 [0x07, 0x00] true, .busW 0x40 [0x08, 0x04] true, .busW 0x40 [0x09, 0x01] true],
        ⟨5, 0x0100⟩, true, .notStarted) := by decide +kernel

theorem witness_TickWithTermShutsDown :
    { ready with term := true }.handle = some ⟨0, 0x79⟩ ∧ { ready with term := true }.term = true := by decide +kernel

theorem witness_TickEndsAndAbsorbsErrors :
    let s := failingAt 7 2 { ticking with mcs := .done }
    s.cfg.wf = true ∧ s.handle = some ⟨0, 0x79⟩ ∧ s.term = false ∧ s.env.responsive = true ∧ s.mcs = .done := by decide +kernel

theorem witness_ShutdownResetsAndExits :
    ready.cfg.wf = true ∧ State.reset.handle = none ∧ ready.handle.isSome = true ∧
      ready.env.busOkFor 1 = true ∧ (failingAt 0 1 ready).env.busFailsAt 0 1 = true ∧
      [0, 1].all (fun j => let s := { ready with gpioSetting := ⟨true, .low⟩, gpioPower := ⟨true, .high⟩ }
        (heldLines s == 2) && s.env.releasesFor 2 && (releaseHangingAt j s).env.releaseHangsAt j) = true := by
  decide +kernel

/-- R333: the release of a held line that never returns leaves SHUTDOWN stuck; with no line held nothing is
released. -/
theorem test_shutdown_release_hangs :
    stopOf (exec .opShutdown (releaseHangingAt 0 { ready with gpioPower := ⟨true, .high⟩ })) =
        some (.inl (.blocked .gpio)) ∧
      stopOf (exec .opShutdown (releaseHangingAt 0 ready)) = none := by decide +kernel

theorem witness_RunLoopOpensThenRuns :
    [CalPolicy.atStartup, .manual].all (fun p => let s := { State.reset with cfg := { Config.initial with calPolicy := p } }
      s.cfg.wf && (s.argMode == 0) && s.env.responsive && s.env.storage.head &&
        (s.env.busOpen.head == some 0) && s.env.busOkFor 5) = true := by decide +kernel

/-- What the bus answers to the reset at the end of RUN CALIBRATE. -/
def lastAnswer (s : State) : Option (Option (Reply TransferResult)) :=
  after (exec .opOpen { s with runActive := true, seq := ⟨.init, 0⟩ }) fun u =>
    after (exec .opCal u) fun v => v.env.bus.head

theorem witness_RunCalibrateEndsInExitZero :
    let s := { State.reset with argMode := 1 }
    s.cfg.wf = true ∧ s.argMode = 1 ∧ s.env.responsive = true ∧ s.env.storage.head = true ∧
      s.env.busOpen.head = some 0 ∧ s.env.busOkFor 5 = true ∧ (failingAt 17 1 s).env.busOkFor 5 = true ∧
      lastAnswer s = some (some (.got .ok)) ∧
      lastAnswer (failingAt 17 1 s) = some (some (.got (.fail 1))) := by decide +kernel

theorem witness_RunOpenErrorIsFatal :
    State.reset.argMode = 0 ∧ after (exec .opOpen { failingAt 0 0 State.reset with
      runActive := true, seq := ⟨.init, 0⟩ }) (fun u => decide (u.err.code ≠ 0)) = some true := by decide +kernel

/-- The state of `ready` as OPEN makes it, with a command waiting. -/
def waiting : State := { ready with inbox := [⟨false, .issue (.cmd 0x08)⟩] }

theorem witness_EveryStepKeepsTheInvariant : Inv waiting ∧ ∃ t, step waiting = .next t := by
  refine ⟨⟨by decide +kernel, by decide, by decide, fun _ => rfl, .inr rfl, fun _ => ⟨rfl, rfl⟩, nofun,
    .inl rfl, ⟨nofun, nofun⟩, nofun, nofun, nofun, ?_, fun _ => by decide +kernel, by decide +kernel,
    by decide +kernel, rfl⟩, ?_⟩
  · intro h hh
    cases hh
    decide +kernel
  · have h : (after (step waiting) fun _ => ()).isSome = true := by decide +kernel
    revert h
    cases step waiting <;> simp [after]

theorem witness_InstructionsKeepConfigTermAndArgs : ∃ t, exec .opPresc { ready with argFreq := 50 } = .next t :=
  ⟨_, rfl⟩

theorem witness_OnlyTheLoopTouchesCalibration : ∃ t, exec .opReset ready = .next t := ⟨_, rfl⟩

theorem witness_OnlyRunAndShutdownChangePhase : ready.term = false ∧ ∃ t, exec .opTick ready = .next t := by
  refine ⟨rfl, ?_⟩
  have h : (after (exec .opTick ready) fun _ => ()).isSome = true := by decide +kernel
  revert h
  cases exec .opTick ready <;> simp [after]

theorem witness_ResultsAreWrittenByTheirOperation :
    after (exec .opPresc { ready with argFreq := 0 }) (fun t => decide (t.err.code ≠ 0)) = some true := by
  decide +kernel

theorem witness_BelowIsTheIeeeLessThan :
    f64Value 0x7FF8000000000000 = .nan ∧ f64Value 0xFFF0000000000000 = .infinite true ∧
      f64Value 0x7FF0000000000000 = .infinite false ∧ f64Value 0 = .finite 0 ∧
      f64Value 0x0000000000000001 = .finite 1 ∧
      { Config.initial with minClearance := 0x7FF0000000000000 }.wf = true := by decide +kernel

theorem witness_FloatWordsDenoteTheirValue :
    [(255, 1), (255, 0), (0, 0), (1, 0), (254, 0x7FFFFF)].all (fun (e, m) =>
      let w : F32 := BitVec.ofNat 32 (e * 2 ^ 23 + m)
      (w.extractLsb' 23 8).toNat == e && (w.extractLsb' 0 23).toNat == m) = true ∧
    [(2047, 1), (2047, 0), (0, 0), (1, 0), (2046, 2 ^ 52 - 1)].all (fun (e, m) =>
      let w : F64 := BitVec.ofNat 64 (2 ^ 63 + e * 2 ^ 52 + m)
      (w.extractLsb' 52 11).toNat == e && (w.extractLsb' 0 52).toNat == m) = true := by decide +kernel

end Sys2Proof.Tests
end

section
/-! The statements about 00_scope.md: what the register addresses name, what the words written out from the
frame and command tables decode to, and what a step refuses. -/
namespace Sys2Proof.Machine

/-! ### Decoding of the frames, for every well-formed configuration -/

/-- The defaults of 00_scope.md R8 are well formed (R9). -/
theorem initial_wf : Config.initial.wf = true := by decide +kernel

section frames
variable {cfg : Config}

theorem decode_writeWord (h : cfg.wf = true) (r v : Byte) :
    decode cfg (writeWord cfg r v) = decodeWrite cfg r v :=
  decodeFrame_write h r v

theorem decode_readWord (h : cfg.wf = true) (r : Byte) :
    decode cfg (readWord cfg r) = decodeRead cfg r :=
  decodeFrame_read h r

@[simp] theorem decodeReg_mode1 (cfg : Config) : decodeReg cfg regMode1 = .mode1 := rfl

@[simp] theorem decodeReg_mode2 (cfg : Config) : decodeReg cfg regMode2 = .mode2 := rfl

/-- PRESCALE is written with whatever byte the frame carries (30_encoding.md R106). -/
theorem decodeWrite_prescale (h : cfg.wf = true) (v : Byte) :
    decodeWrite cfg regPrescale v = .ok (.wrPrescale v) := by
  simp only [decodeWrite, decodeReg_prescale h]

theorem decodeRead_prescale (h : cfg.wf = true) : decodeRead cfg regPrescale = .ok .rdPrescale := by
  simp only [decodeRead, decodeReg_prescale h]

theorem decodeWrite_mode1_wake (cfg : Config) :
    decodeWrite cfg regMode1 cfg.m1Wake = .ok .wrMode1Wake := by
  simp only [decodeWrite, decodeReg_mode1, if_true]

/-- The two MODE1 writes are told apart by their byte alone (30_encoding.md R106, log 28). -/
theorem decodeWrite_mode1_run (hne : cfg.m1Run ≠ cfg.m1Wake) :
    decodeWrite cfg regMode1 cfg.m1Run = .ok .wrMode1Run := by
  simp only [decodeWrite, decodeReg_mode1, if_neg hne, if_true]

theorem decodeWrite_mode2_init (cfg : Config) :
    decodeWrite cfg regMode2 cfg.m2Init = .ok .wrMode2 := by
  simp only [decodeWrite, decodeReg_mode2, if_true]

/-- The low byte of a count is free (30_encoding.md R104). -/
theorem decodeWrite_offL (h : cfg.wf = true) (c : Channel) (v : Byte) :
    decodeWrite cfg (edgeAddr cfg c .offL) v = .ok (wrOffL c v) :=
  decodeWrite_edge h c .offL v

/-- The high byte of a count is its four bits under four zero bits (30_encoding.md R104). -/
theorem decodeWrite_offH (h : cfg.wf = true) (c : Channel) (hi : BitVec 4) :
    decodeWrite cfg (edgeAddr cfg c .offH) (offHighByte hi) = .ok (wrOffH c hi) := by
  rw [decodeWrite_edge h, wrEdge, if_pos (offHighByte_high hi), offHighByte_low]

end frames

/-! ### What a step refuses -/

/-- A step under an ill-formed CFG is refused whatever its input (00_scope.md R9, log 20). -/
theorem step_of_not_wf {s : State} (h : s.cfg.wf = false) : step s = .refused .illFormedConfig := by
  simp [step, h]

theorem exec_opRun (s : State) : exec .opRun s = execRun s := rfl

/-- RUN SENSOR_TEST is given no meaning (43_control_loop.md R230, log 19). -/
theorem execRun_of_sensorTest {s : State} (h : s.argMode = 2) : execRun s = .refused .sensorTest := by
  simp [execRun, h]

/-! ### The statements -/

/-- Settles O5: the sum and its bound from the range of CH_BASE, and the decoded address from the offsets
being four different ones. -/
theorem edgeAddressNamesItsRegister : Obligations.EdgeAddressNamesItsRegister :=
  ⟨fun _ c x h => ⟨edgeAddr_toNat h c x, (edgeAddr_range h c x).2, decodeReg_edgeAddr h c x⟩, rfl, rfl⟩

/-- Settles O3: each word falls, under the defaults, under the law of its family above. -/
theorem writtenOutWordsDecode : Obligations.WrittenOutWordsDecode := by
  have hwf := initial_wf
  have hrun : Config.initial.m1Run ≠ Config.initial.m1Wake := by decide
  have write (r v : Byte) : decode Config.initial (.frame 0x40#7 [r, v]) = decodeWrite Config.initial r v :=
    decode_writeWord hwf r v
  have read (r : Byte) : decode Config.initial (.frame 0x40#7 [r]) = decodeRead Config.initial r :=
    decode_readWord hwf r
  simp only [Obligations.WrittenOutWordsDecode, write, read]
  exact ⟨decodeFrame_swrst Config.initial, decodeWrite_prescale hwf 0x79#8,
    decodeWrite_mode1_wake Config.initial, decodeWrite_mode1_run hrun,
    decodeWrite_mode2_init Config.initial, decodeWrite_offL hwf 0 0x04#8, decodeWrite_offH hwf 15 0xF#4,
    decodeRead_prescale hwf, decodeRead_edge hwf 7 .onH, rfl⟩

/-- Settles O10, from the two refusals above: the step's for CFG, RUN's for ARG_MODE 2. -/
theorem illFormedConfigAndSensorTestRefused : Obligations.IllFormedConfigAndSensorTestRefused :=
  ⟨fun _ h => step_of_not_wf h, fun s h => (exec_opRun s).trans (execRun_of_sensorTest h)⟩

end Sys2Proof.Machine
end

section
/-! The host's side of a step (10_state.md R21, 60_exceptions.md R284): what it does with each action the
port accepts. -/
namespace Sys2Proof.Machine

theorem nextAction_of_inbox {s : State} {t : Bool} {a : PortAction} {rest : List Input}
    (h : s.inbox = ⟨t, a⟩ :: rest) : nextAction s = a := by
  simp [nextAction, h]

/-- Where the port accepts operations it takes every action as `acceptAction` says. -/
theorem arbitrate_of_accepts {s : State} (h : portAccepts s = true) (a : PortAction) :
    arbitrate a s = acceptAction a s := by
  obtain ⟨hrun, hhalt⟩ : s.runActive = false ∧ isHalted s = false := by simpa [portAccepts] using h
  cases a <;> simp [arbitrate, acceptAction, hrun, hhalt]

/-- The read of a result register is treated alike in Halted and where the port accepts operations
(log 22). -/
theorem arbitrate_readResult {s : State} (h : s.runActive = false) (r : ResultReg) :
    arbitrate (.readResult r) s = readResult r s := by
  cases hh : isHalted s <;> simp [arbitrate, acceptAction, h, hh]

@[simp] theorem resultWritten_takeInput (r : ResultReg) (s : State) :
    resultWritten r (takeInput s) = resultWritten r s := by
  cases r <;> rfl

/-- A step that only settles ends in the state settled. -/
theorem step_of_settle {s u : State} (hw : s.cfg.wf = true)
    (h : arbitrate (nextAction s) (takeInput s) = .settle u) : step s = .next u := by
  simp [step, hw, h]

theorem step_of_fault {s : State} {f : Fault} (hw : s.cfg.wf = true)
    (h : arbitrate (nextAction s) (takeInput s) = .fault f) : step s = .fault f := by
  simp [step, hw, h]

/-- Settles O7: with no RUN in progress the read goes to `readResult`, which looks at the mark alone. -/
theorem resultReadNeedsItsOperation : Obligations.ResultReadNeedsItsOperation := by
  intro s r t rest hw hrun hin
  have harb : arbitrate (nextAction s) (takeInput s) =
      if resultWritten r s then .settle (takeInput s) else .fault (.resultNotWritten r) := by
    rw [nextAction_of_inbox hin, arbitrate_readResult (by exact hrun), readResult,
      resultWritten_takeInput]
  split
  · rename_i h
    exact step_of_settle hw (by rw [harb, if_pos h])
  · rename_i h
    exact step_of_fault hw (by rw [harb, if_neg h])

/-- Settles O9: the port accepts the write, and the step settles with the one register written. -/
theorem argWritesChangeOneRegister : Obligations.ArgWritesChangeOneRegister := by
  intro s t rest a hw hport hin
  have hstep : ∀ u, acceptAction a (takeInput s) = .settle u → step s = .next u := fun u hu =>
    step_of_settle hw
      (by rw [nextAction_of_inbox hin, arbitrate_of_accepts (by exact hport), hu])
  refine ⟨?_, ?_, ?_, ?_, ?_⟩ <;> (rintro v rfl; exact hstep _ rfl)

end Sys2Proof.Machine
end

section
/-! What no instruction writes (10_state.md R21, R28, R31). -/
namespace Sys2Proof.Machine

/-- What no instruction writes: CFG, TERM, CMD, the ARG registers and the inputs to come. -/
def hostFields (s : State) :
    Config × Bool × Byte × Byte × BitVec 16 × F32 × BitVec 32 × BitVec 2 × List Input :=
  (s.cfg, s.term, s.cmd, s.argCh, s.argDuty, s.argFrac, s.argFreq, s.argMode, s.inbox)

/-- The host's fields as they were, and the trace an extension of what it was. -/
def HostFrame (s t : State) : Prop := hostFields t = hostFields s ∧ s.tr <+: t.tr

theorem HostFrame.refl (s : State) : HostFrame s s := ⟨rfl, List.prefix_rfl⟩

/-- An event appended to TR, with updates elsewhere, keeps the frame. -/
theorem HostFrame.append {s t u : State} {events : List Event} (h : HostFrame s t)
    (hf : hostFields u = hostFields t) (htr : u.tr = t.tr ++ events) : HostFrame s u :=
  ⟨hf.trans h.1, htr ▸ h.2.trans (List.prefix_append t.tr events)⟩

/-- Every primitive action keeps the frame. -/
theorem hostFrame_opKept (s₀ : State) : OpKept (HostFrame s₀) where
  write _ _ _ _ _ h _ _ := h.append rfl rfl
  read _ _ h _ := h.append rfl rfl
  readFail _ _ h _ := h.append rfl rfl
  raise _ _ _ h := h
  emitted _ _ _ _ h := h.append rfl rfl
  gpioTaken _ h := h
  releaseTaken _ h := h
  storageTaken _ h := h
  busOpenTaken _ h := h
  sensed _ _ h := h
  copied _ _ h := h.append (events := [.semAcq, .semRel]) rfl (by simp)
  line _ l _ h := by cases l <;> exact h
  mcs _ _ h := h
  attempted _ h := h
  seq _ _ h := h
  active _ _ h := h
  handle _ _ h := h
  duty _ _ h := h
  presc _ _ h := h
  snapshot _ _ h := h
  cleared _ h := h

/-- Settles O55: the frame of the host's fields and the trace, kept by every instruction. -/
theorem instructionsKeepConfigTermAndArgs : Obligations.InstructionsKeepConfigTermAndArgs := by
  intro i s t he
  obtain ⟨hfields, events, htr⟩ := exec_keeps (hostFrame_opKept s) (HostFrame.refl s) he
  simp only [hostFields, Prod.mk.injEq] at hfields
  obtain ⟨hcfg, hterm, hcmd, hch, hduty, hfrac, hfreq, hmode, hinbox⟩ := hfields
  exact ⟨hcfg, hterm, hcmd, hch, hduty, hfrac, hfreq, hmode, hinbox, events, htr.symm⟩

end Sys2Proof.Machine
end

section
/-! What each operation writes. `OpKept` asks a property to survive every update of the whole machine; here
each operation has the list of its own updates, a relation between states, and keeps what that list keeps. -/
namespace Sys2Proof.Machine

/-- A property that every update of the list keeps. -/
def Closed (R : State → State → Prop) (P : State → Prop) : Prop := ∀ ⦃s t⦄, R s t → P s → P t

theorem Closed.and {R : State → State → Prop} {P Q : State → Prop} (hP : Closed R P) (hQ : Closed R Q) :
    Closed R fun s => P s ∧ Q s :=
  fun _ _ hR h => ⟨hP hR h.1, hQ hR h.2⟩

theorem Closed.mono {R R' : State → State → Prop} {P : State → Prop} (hP : Closed R' P)
    (h : ∀ s t, R s t → R' s t) : Closed R P :=
  fun s t hR => hP (h s t hR)

/-- What no update of the list writes keeps its value. -/
theorem Closed.view {α : Type} {R : State → State → Prop} (f : State → α) (x : α)
    (hf : ∀ s t, R s t → f t = f s) : Closed R fun s => f s = x :=
  fun s t hR h => (hf s t hR).trans h

/-! ### The lists of updates -/

/-- The updates of a bus transfer, of ERR, and of an event other than the semaphore's. -/
inductive BusUpdate (s : State) : State → Prop
  | write (a : BusAddr) (bytes : List Byte) (r : TransferResult) (chip : Chip)
      (hc : s.chip.receive s.cfg a (r.arrived bytes) = some chip) :
      BusUpdate s (emit (.busW a bytes r.isOk)
        { s with env := { s.env with bus := s.env.bus.tail }, chip := chip })
  | read (result : Option (List Byte)) :
      BusUpdate s (emit (.busR s.cfg.devAddr 1 result)
        { s with env := { s.env with bus := s.env.bus.tail } })
  | raise (k : ErrKind) (n : BitVec 16) : BusUpdate s (setErr k n s)
  | clear : BusUpdate s (clearErr s)
  | event (e : Event) (hacq : e ≠ .semAcq) (hrel : e ≠ .semRel) : BusUpdate s (emit e s)

/-- The updates of OPEN; the handle it opens holds the prescale of FREQ_HZ, on a chip of which the low-power
state is known (10_state.md R24, R38(a)). -/
inductive OpenUpdate (s : State) : State → Prop
  | bus {t : State} (h : BusUpdate s t) : OpenUpdate s t
  | storage : OpenUpdate s { s with env := { s.env with storage := s.env.storage.tail } }
  | busOpen : OpenUpdate s { s with env := { s.env with busOpen := s.env.busOpen.tail } }
  | close : OpenUpdate s { s with handle := none }
  | opened (h : Handle) (hp : prescaleOf s.cfg.freqHz = some h.prescale)
      (hl : (s.chip.lowPower s.cfg).isSome = true) : OpenUpdate s { s with handle := some h }

/-- The updates of a line's release (20_memory.md R77). -/
inductive ReleaseUpdate (s : State) : State → Prop
  | bus {t : State} (h : BusUpdate s t) : ReleaseUpdate s t
  | release (l : Line) : ReleaseUpdate s (markReleased l { s with env := s.env.dropRelease 1 })

/-- The updates of the handshake between the request of its lines and their release: a line is driven only
while it is held (42_motor_calibration.md R204 to R206). -/
inductive DriveUpdate (s : State) : State → Prop
  | bus {t : State} (h : BusUpdate s t) : DriveUpdate s t
  | gpioTaken : DriveUpdate s { s with env := s.env.dropGpio 1 }
  | drive (l : Line) (level : Level) (hl : (gpioLine l s).held = true) :
      DriveUpdate s (setGpioLine l { gpioLine l s with level := level } s)
  | mcs (m : Mcs) : DriveUpdate s { s with mcs := m }

/-- The updates of the whole handshake; POWER is requested only where it exists (10_state.md R30). -/
inductive HandshakeUpdate (s : State) : State → Prop
  | drive {t : State} (h : DriveUpdate s t) : HandshakeUpdate s t
  | release {t : State} (h : ReleaseUpdate s t) : HandshakeUpdate s t
  | request (l : Line) (held : Bool) (hl : l = .power → s.cfg.powerLinePresent = true) :
      HandshakeUpdate s (setGpioLine l ⟨held, .unknown⟩ s)
  | seq (q : Seq) : HandshakeUpdate s { s with seq := q }

/-- The updates of SHUTDOWN (43_control_loop.md R240). -/
inductive ShutdownUpdate (s : State) : State → Prop
  | release {t : State} (h : ReleaseUpdate s t) : ShutdownUpdate s t
  | close : ShutdownUpdate s { s with handle := none }
  | seq (q : Seq) : ShutdownUpdate s { s with seq := q }
  | inactive : ShutdownUpdate s { s with runActive := false }

/-- The updates of a tick's body beside those of the CAL it may start (43_control_loop.md R234 to R239). -/
inductive TickUpdate (s : State) : State → Prop
  | bus {t : State} (h : BusUpdate s t) : TickUpdate s t
  | sense (r : F64) :
      TickUpdate s { s with clr := r, env := { s.env with sensor := s.env.sensor.tail } }
  | copy (snap : Snapshot) : TickUpdate s (emit .semRel (emit .semAcq
      { s with snap := snap, env := { s.env with shm := s.env.shm.tail } }))
  | channel (c : Channel) : TickUpdate s { s with seq := { s.seq with idx := c } }

/-! ### What each list leaves alone -/

section frames
variable {s t : State}

theorem BusUpdate.busOnly (h : BusUpdate s t) : BusOnly s t := by
  cases h <;> rfl

theorem OpenUpdate.frame (h : OpenUpdate s t) : t = { s with
    env := t.env, chip := t.chip, tr := t.tr, err := t.err, handle := t.handle } := by
  cases h with
  | bus h => cases h <;> rfl
  | storage => rfl
  | busOpen => rfl
  | close => rfl
  | opened => rfl

theorem ReleaseUpdate.frame (h : ReleaseUpdate s t) : t = { s with
    env := t.env, chip := t.chip, tr := t.tr, err := t.err
    gpioSetting := t.gpioSetting, gpioPower := t.gpioPower } := by
  cases h with
  | bus h => cases h <;> rfl
  | release l => cases l <;> rfl

theorem HandshakeUpdate.frame (h : HandshakeUpdate s t) : t = { s with
    env := t.env, chip := t.chip, tr := t.tr, err := t.err, seq := t.seq, mcs := t.mcs
    gpioSetting := t.gpioSetting, gpioPower := t.gpioPower } := by
  cases h with
  | drive h =>
    cases h with
    | bus h => cases h <;> rfl
    | gpioTaken => rfl
    | drive l => cases l <;> rfl
    | mcs => rfl
  | release h =>
    cases h with
    | bus h => cases h <;> rfl
    | release l => cases l <;> rfl
  | request l => cases l <;> rfl
  | seq => rfl

theorem ShutdownUpdate.frame (h : ShutdownUpdate s t) : t = { s with
    env := t.env, chip := t.chip, tr := t.tr, err := t.err, seq := t.seq, handle := t.handle
    runActive := t.runActive, gpioSetting := t.gpioSetting, gpioPower := t.gpioPower } := by
  cases h with
  | release h =>
    cases h with
    | bus h => cases h <;> rfl
    | release l => cases l <;> rfl
  | close => rfl
  | seq => rfl
  | inactive => rfl

theorem TickUpdate.frame (h : TickUpdate s t) : t = { s with
    env := t.env, chip := t.chip, tr := t.tr, err := t.err, clr := t.clr, snap := t.snap
    seq := { s.seq with idx := t.seq.idx } } := by
  cases h with
  | bus h => cases h <;> rfl
  | sense => rfl
  | copy => rfl
  | channel => rfl

end frames

/-! ### Sequencing -/

theorem holds_and {α : Type} {P P' : α → State → Prop} {Q Q' : Raise → State → Prop} {r : Res α}
    (h : r.Holds P Q) (h' : r.Holds P' Q') :
    r.Holds (fun a s => P a s ∧ P' a s) (fun e s => Q e s ∧ Q' e s) := by
  cases r with
  | done a s => exact ⟨h, h'⟩
  | raised e s => exact ⟨h, h'⟩
  | stopped x => trivial

/-- What holds of each of two lists of steps holds of the one after the other. -/
theorem holds_runSteps_append {P P' : State → Prop} {Q : Raise → State → Prop} {as bs : List Act} {s : State}
    (ha : (runSteps as s).Holds (fun _ t => P t) Q)
    (hb : ∀ t, P t → (runSteps bs t).Holds (fun _ u => P' u) Q) :
    (runSteps (as ++ bs) s).Holds (fun _ u => P' u) Q := by
  rw [runSteps_append]
  exact holds_andThen ha fun _ t ht => hb t ht

section bus
variable {P : State → Prop} (hP : Closed BusUpdate P)
include hP

theorem Closed.busKept : BusKept P where
  write _ a bytes r chip h _ hc := hP (.write a bytes r chip hc) h
  read _ _ h _ := hP (.read _) h
  readFail _ _ h _ := hP (.read none) h
  raise _ k n h := hP (.raise k n) h

theorem Closed.keeps_delay (w : Wait) : Act.Keeps P (delay w) := fun _ hs => hP (.event _ nofun nofun) hs

theorem Closed.keeps_log (k : LogKind) (n : BitVec 16) {s : State} (hs : P s) : P (logEvent k n s) :=
  hP (.event _ nofun nofun) hs

theorem Closed.keeps_busClose {s : State} (hs : P s) : P (busClose s) := hP (.event _ nofun nofun) hs

theorem Closed.keeps_resetOp : Act.Keeps P resetOp := fun s hs =>
  resetOp_keeps hP.busKept (fun _ _ h => hP (.event _ nofun nofun) h) s hs

theorem Closed.keeps_writeChannel (c : Channel) (d : Duty) : Act.Keeps P (writeChannel c d) :=
  writeChannel_keeps hP.busKept c d

theorem Closed.keeps_needHandle {a : Act} (ha : Act.Keeps P a) : Act.Keeps P (needHandle a) := by
  intro s hs
  cases hh : s.handle with
  | none => rw [needHandle_none a s hh]; exact hP (.raise _ _) hs
  | some h => rw [needHandle_some a s h hh]; exact ha s hs

/-- MotorWrite: a map that changes nothing or raises, then four writes (42_motor_calibration.md R201). -/
theorem Closed.keeps_motorWrite (w : F32) : Act.Keeps P (motorWrite w) := by
  intro s hs
  unfold motorWrite
  cases hd : mapDuty (s.cfg.cal.get s.cfg.motorCh) w with
  | none => rw [mapChannel_none hd]; exact hP (.raise _ _) hs
  | some d => rw [mapChannel_some hd]; exact hP.keeps_writeChannel _ d s hs

end bus

/-! ### OPEN -/

/-- A reset that is done leaves the low-power state known (10_state.md R38(a)). -/
theorem resetOp_lowPowerKnown (s : State) :
    (resetOp s).Holds (fun _ t => (t.chip.lowPower t.cfg).isSome = true) (fun _ _ => True) := by
  cases hb : s.env.bus.head with
  | hang => simp [resetOp, swrst, busWrite, hb]
  | got r =>
    cases r with
    | ok => rw [resetOp_ok hb]; rfl
    | fail n => rw [resetOp_fail hb]; trivial

theorem lowPowerKnown_closed : Closed BusUpdate fun s => (s.chip.lowPower s.cfg).isSome = true := by
  intro s t hR h
  cases hR with
  | write a bytes r chip hc => exact receive_lowPower h hc
  | read => exact h
  | raise => exact h
  | clear => exact h
  | event => exact h

theorem Closed.keeps_configureChip {P : State → Prop} (hP : Closed BusUpdate P) (cfg : Config) (p : Byte) :
    Act.Keeps P (configureChip cfg p) := by
  have write : ∀ r v, Act.Keeps P (regWrite r v) := regWrite_keeps hP.busKept
  refine holds_runSteps fun a ha => ?_
  simp only [List.mem_cons, List.not_mem_nil, or_false] at ha
  rcases ha with rfl | rfl | rfl | rfl | rfl
  · exact write _ _
  · exact write _ _
  · exact hP.keeps_delay _
  · exact write _ _
  · exact write _ _

section openOp
variable {P : State → Prop} (hP : Closed OpenUpdate P)
include hP

theorem Closed.openBus : Closed BusUpdate P := hP.mono fun _ _ => .bus

/-- Steps 3 to 11 of OPEN leave a handle open exactly where they are done (40_register_protocol.md R142). -/
theorem Closed.keeps_initChip (conn : Nat) {s : State} (hs : P s) (hh : s.handle = none) :
    (initChip conn s).Holds (fun _ t => P t ∧ t.handle.isSome = true)
      (fun _ t => P t ∧ t.handle = none) := by
  have hQ : Closed BusUpdate fun t => P t ∧ t.handle = none ∧ t.cfg = s.cfg :=
    hP.openBus.and ((Closed.view _ _ fun _ _ h => h.busOnly.handle).and
      (Closed.view _ _ fun _ _ h => h.busOnly.cfg))
  have hreset := hQ.keeps_resetOp s ⟨hs, hh, rfl⟩
  refine holds_andThen (P := fun _ t => (P t ∧ t.handle = none ∧ t.cfg = s.cfg) ∧
    (t.chip.lowPower t.cfg).isSome = true) ?_ fun _ t ⟨ht, hl⟩ => ?_
  · exact holds_mono (holds_and hreset (resetOp_lowPowerKnown s)) (fun _ _ h => h)
      fun _ _ ⟨⟨h, hn, _⟩, _⟩ => ⟨h, hn⟩
  · split
    · exact ⟨hP.openBus (.raise _ _) ht.1, ht.2.1⟩
    · rename_i p hp
      have hconf := (hQ.and lowPowerKnown_closed).keeps_configureChip s.cfg p t ⟨ht, hl⟩
      refine holds_andThen (holds_mono hconf (fun _ _ h => h) fun _ _ ⟨⟨h, hn, _⟩, _⟩ => ⟨h, hn⟩)
        fun _ u ⟨⟨hu, _, hcfg⟩, hlu⟩ => ?_
      exact ⟨hP (.opened ⟨conn, p⟩ (by rw [hcfg]; exact hp) hlu) hu, rfl⟩

theorem Closed.keeps_busOpen {s : State} (hs : P s) (hh : s.handle = none) :
    (busOpen s).Holds (fun _ t => P t ∧ t.handle = none) (fun _ t => P t ∧ t.handle = none) := by
  have ht := hP .busOpen hs
  cases ho : s.env.busOpen.head with
  | none =>
    rw [busOpen_none ho]
    exact ⟨hP.openBus (.raise _ _) (hP.openBus (.event _ nofun nofun) ht), hh⟩
  | some conn =>
    rw [busOpen_some ho]
    exact ⟨hP.openBus (.event _ nofun nofun) ht, hh⟩

theorem Closed.keeps_closeHandle {s : State} (hs : P s) : P (closeHandle s) := by
  cases hh : s.handle with
  | none => simpa [closeHandle, hh] using hs
  | some h => simpa [closeHandle, hh] using hP .close (hP.openBus.keeps_busClose hs)

/-- OPEN keeps what its updates keep, and leaves a handle open exactly where it is done
(40_register_protocol.md R142, R150). -/
theorem Closed.keeps_openOp {s : State} (hs : P s) :
    (openOp s).Holds (fun _ t => P t ∧ t.handle.isSome = true) (fun _ t => P t ∧ t.handle = none) := by
  have hstored := hP .storage (hP.keeps_closeHandle hs)
  have hh : (closeHandle s).handle = none := by rw [closeHandle_eq]
  unfold openOp
  dsimp only
  split
  · refine holds_andThen (hP.keeps_busOpen hstored hh) fun conn t ⟨ht, hn⟩ => closeOnRaise_holds ?_
    exact holds_mono (hP.keeps_initChip conn ht hn) (fun _ _ h => h)
      fun _ _ ⟨hu, hun⟩ => ⟨hP.openBus.keeps_busClose hu, hun⟩
  · exact ⟨hP.openBus (.raise _ _) hstored, hh⟩

end openOp

/-! ### The release of the lines, and SHUTDOWN -/

/-- No line is held. -/
def noLineHeld (s : State) : Prop := s.gpioSetting.held = false ∧ s.gpioPower.held = false

theorem settingReleased_closed : Closed ReleaseUpdate fun s => s.gpioSetting.held = false := by
  intro s t hR h
  cases hR with
  | bus hb => rw [hb.busOnly.gpioSetting]; exact h
  | release l =>
    cases l
    · rfl
    · exact h

section release
variable {P : State → Prop} (hP : Closed ReleaseUpdate P)
include hP

theorem Closed.releaseBus : Closed BusUpdate P := hP.mono fun _ _ => .bus

/-- A line released if it was held is not held after; the release raises nothing (20_memory.md R76). -/
theorem Closed.keeps_releaseIfHeld (l : Line) {s : State} (hs : P s) :
    (releaseIfHeld l s).Holds (fun _ t => P t ∧ (gpioLine l t).held = false) (fun _ _ => False) := by
  unfold releaseIfHeld
  split
  · cases hr : s.env.release.head with
    | hang => rw [gpioRelease_hangs hr]; trivial
    | got u =>
      rw [gpioRelease_returns hr]
      exact ⟨hP (.release l) hs, by cases l <;> rfl⟩
  · exact ⟨hs, (Bool.not_eq_true _).mp ‹_›⟩

/-- The release of the held lines leaves none held and raises nothing (42_motor_calibration.md R208). -/
theorem Closed.keeps_releaseHeldLines {s : State} (hs : P s) :
    (releaseHeldLines s).Holds (fun _ t => P t ∧ noLineHeld t) (fun _ _ => False) := by
  refine holds_andThen (hP.keeps_releaseIfHeld .setting hs) fun _ t ht => ?_
  exact holds_andThen ((hP.and settingReleased_closed).keeps_releaseIfHeld .power ht)
    fun _ u ⟨⟨hu, hset⟩, hpow⟩ => ⟨hu, hset, hpow⟩

end release

/-- The block after SHUTDOWN (43_control_loop.md R240, 40_register_protocol.md R150). -/
structure ShutDown (s : State) : Prop where
  phase : s.seq.phase = .halted 0
  inactive : s.runActive = false
  closed : s.handle = none
  released : noLineHeld s

section shutdown
variable {P : State → Prop} (hP : Closed ShutdownUpdate P)
include hP

theorem Closed.shutdownRelease : Closed ReleaseUpdate P := hP.mono fun _ _ => .release

theorem Closed.keeps_shutdownReset {s : State} (hs : P s) :
    (shutdownReset s).Holds (fun _ t => P t ∧ t.handle = none) (fun _ _ => False) := by
  have hbus := hP.shutdownRelease.releaseBus
  unfold shutdownReset
  split
  · exact ⟨hs, ‹_›⟩
  · have hreset : ((resetOp s).absorb logResetFail).Holds (fun _ t => P t) (fun _ _ => False) :=
      holds_absorb (holds_mono (hbus.keeps_resetOp s hs) (fun _ _ h => h) fun _ _ h => hbus.keeps_log _ _ h)
    exact holds_andThen hreset fun _ t ht => ⟨hP .close (hbus.keeps_busClose ht), rfl⟩

/-- SHUTDOWN keeps what its updates keep, raises nothing and ends in Halted(0) with the handle gone and no
line held (43_control_loop.md R240). -/
theorem Closed.keeps_shutdownOp {s : State} (hs : P s) :
    (shutdownOp s).Holds (fun _ t => P t ∧ ShutDown t) (fun _ _ => False) := by
  have hclosed : Closed ReleaseUpdate fun t => P t ∧ t.handle = none :=
    hP.shutdownRelease.and (Closed.view State.handle none fun _ _ h => by rw [h.frame])
  refine holds_andThen (hP.keeps_shutdownReset (hP (.seq _) hs)) fun _ t ht => ?_
  refine holds_andThen (hclosed.keeps_releaseHeldLines ht) fun _ u ⟨⟨hu, hhandle⟩, hlines⟩ => ?_
  exact ⟨hP.shutdownRelease.releaseBus (.event _ nofun nofun) (hP (.seq _) (hP .inactive hu)),
    { phase := rfl, inactive := rfl, closed := hhandle, released := hlines }⟩

end shutdown

/-! ### CAL -/

section drive
variable {P : State → Prop} (hP : Closed DriveUpdate P)
include hP

theorem Closed.driveBus : Closed BusUpdate P := hP.mono fun _ _ => .bus

theorem Closed.keeps_setMcs (m : Mcs) : Act.Keeps P (setMcs m) := fun _ hs => hP (.mcs m) hs

/-- A held line is driven, or its failed write raises; in neither case is anything else written. -/
theorem Closed.keeps_gpioWrite (n : Byte) (l : Line) (high : Bool) {s : State} (hs : P s)
    (hl : (gpioLine l s).held = true) :
    (gpioWrite n l high s).Holds (fun _ t => P t) (fun _ t => P t) := by
  have ht := hP .gpioTaken hs
  cases hg : s.env.gpio.head with
  | hang => simp [gpioWrite, gpioAnswer, hg]
  | got ok =>
    cases ok with
    | false =>
      rw [gpioWrite_fail hg]
      exact hP.driveBus (.raise _ _) (hP.driveBus (.event _ nofun nofun) ht)
    | true =>
      rw [gpioWrite_ok hg]
      exact hP.driveBus (.event _ nofun nofun) (hP (.drive l _ hl) ht)

end drive

/-- The setting line stays held while the handshake drives it. -/
theorem settingHeld_closed : Closed DriveUpdate fun s => s.gpioSetting.held = true := by
  intro s t hR h
  cases hR with
  | bus hb => rw [hb.busOnly.gpioSetting]; exact h
  | gpioTaken => exact h
  | drive l => cases l <;> exact h
  | mcs => exact h

section setting
variable {P : State → Prop} (hP : Closed DriveUpdate P)
include hP

/-- While the setting line is held, T2 to T4 keep it held and keep what their updates keep. -/
theorem Closed.keeps_calDrive {a : Act} (ha : a ∈ calT2 ++ calT3 ++ calT4) :
    Act.Keeps (fun s => P s ∧ s.gpioSetting.held = true) a := by
  have hQ := hP.and settingHeld_closed
  have drive : ∀ n high, Act.Keeps (fun s => P s ∧ s.gpioSetting.held = true)
      (gpioWrite n .setting high) := fun n high _ hs => hQ.keeps_gpioWrite n .setting high hs hs.2
  have hpulse : ∀ n, ∀ b ∈ pulse n, Act.Keeps (fun s => P s ∧ s.gpioSetting.held = true) b := by
    intro n b hb
    simp only [pulse, List.mem_cons, List.not_mem_nil, or_false] at hb
    rcases hb with rfl | rfl | rfl | rfl
    · exact drive _ _
    · exact hQ.driveBus.keeps_delay _
    · exact drive _ _
    · exact hQ.driveBus.keeps_delay _
  simp only [calT2, calT3, calT4, List.mem_append, List.mem_cons, List.not_mem_nil, or_false] at ha
  rcases ha with ((((rfl | rfl) | ha) | rfl) | rfl | ha | rfl) | rfl | ha | rfl
  · exact drive _ _
  · exact hQ.driveBus.keeps_motorWrite _
  · exact hpulse _ a ha
  · exact hQ.keeps_setMcs _
  · exact hQ.driveBus.keeps_motorWrite _
  · exact hpulse _ a ha
  · exact hQ.keeps_setMcs _
  · exact hQ.driveBus.keeps_motorWrite _
  · exact hpulse _ a ha
  · exact hQ.keeps_setMcs _

end setting

section handshake
variable {P : State → Prop} (hP : Closed HandshakeUpdate P)
include hP

theorem Closed.handshakeDrive : Closed DriveUpdate P := hP.mono fun _ _ => .drive

theorem Closed.handshakeRelease : Closed ReleaseUpdate P := hP.mono fun _ _ => .release

theorem Closed.keeps_gpioRequest (n : Byte) (l : Line) {s : State} (hs : P s)
    (hl : l = .power → s.cfg.powerLinePresent = true) :
    (gpioRequest n l s).Holds (fun _ t => P t ∧ (gpioLine l t).held = true) (fun _ t => P t) := by
  have hbus := hP.handshakeDrive.driveBus
  have ht := hP.handshakeDrive .gpioTaken hs
  cases hg : s.env.gpio.head with
  | hang => simp [gpioRequest, gpioAnswer, hg]
  | got ok =>
    have hreq : ∀ held, P (setGpioLine l ⟨held, .unknown⟩ { s with env := s.env.dropGpio 1 }) :=
      fun held => hP (.request l held (by exact hl)) ht
    cases ok with
    | false =>
      rw [gpioRequest_fail hg]
      exact hbus (.raise _ _) (hbus (.event _ nofun nofun) (hreq _))
    | true =>
      rw [gpioRequest_ok hg]
      exact ⟨hbus (.event _ nofun nofun) (hreq true), by cases l <;> rfl⟩

/-- T1 leaves the setting line held (42_motor_calibration.md R203). -/
theorem Closed.keeps_calT1 {s : State} (hs : P s) :
    (runSteps (calT1 s.cfg) s).Holds (fun _ t => P t ∧ t.gpioSetting.held = true) (fun _ t => P t) := by
  have hdrive := hP.handshakeDrive
  refine holds_runSteps_append (P := P) ?_ fun t ht => ?_
  · split
    · rename_i hpow
      refine holds_andThen (hP.keeps_gpioRequest 1 .power hs fun _ => hpow) fun _ t ⟨ht, hheld⟩ => ?_
      exact holds_andThen (hdrive.keeps_gpioWrite 1 .power true ht hheld) fun _ _ hu => hu
    · exact hs
  · have hQ := hdrive.and settingHeld_closed
    refine holds_andThen (hP.keeps_gpioRequest 1 .setting ht nofun) fun _ u hu => ?_
    have hw := hQ.keeps_gpioWrite 1 .setting true hu hu.2
    refine holds_andThen (holds_mono hw (fun _ _ h => h) fun _ _ h => h.1) fun _ v hv => ?_
    exact hQ.keeps_setMcs _ _ (hQ.driveBus.keeps_delay .hold v hv)

/-- T5 ends at Done (42_motor_calibration.md R207). -/
theorem Closed.keeps_calT5 (cfg : Config) {s : State} (hs : P s) :
    (runSteps (calT5 cfg) s).Holds (fun _ t => P t ∧ t.mcs = .done) (fun _ t => P t) := by
  have release : ∀ l, Act.Keeps P (gpioRelease l) := fun l t ht => by
    cases hr : t.env.release.head with
    | hang => rw [gpioRelease_hangs hr]; trivial
    | got u => rw [gpioRelease_returns hr]; exact hP.handshakeRelease (.release l) ht
  refine holds_runSteps_append (P := P) (holds_runSteps (fun a ha => ?_) s hs)
    fun t ht => ⟨hP.handshakeDrive (.mcs _) ht, rfl⟩
  split at ha
  · rcases List.mem_cons.1 ha with rfl | ha
    · exact release _
    · split at ha
      · rw [List.mem_singleton.1 ha]; exact release _
      · cases ha
  · cases ha

/-- The five transitions keep what their updates keep, and are done only at Done (42_motor_calibration.md
R202 to R207). -/
theorem Closed.keeps_handshake {s : State} (hs : P s) :
    (runSteps (handshake s.cfg) s).Holds (fun _ t => P t ∧ t.mcs = .done) (fun _ t => P t) := by
  have hassoc : handshake s.cfg =
      calT1 s.cfg ++ (calT2 ++ calT3 ++ calT4) ++ calT5 s.cfg := by
    simp [handshake]
  rw [hassoc]
  refine holds_runSteps_append (P := P) ?_ fun t ht => hP.keeps_calT5 _ ht
  refine holds_runSteps_append (hP.keeps_calT1 hs) fun t ht => ?_
  exact holds_mono (holds_runSteps (fun a ha => hP.handshakeDrive.keeps_calDrive ha) t ht)
    (fun _ _ h => h.1) fun _ _ h => h.1

/-- The handshake comes back to the phase it left: at Done, or aborted with MCS NotStarted and no line held
(42_motor_calibration.md R202, R208, R209). -/
theorem Closed.keeps_runHandshake {s : State} (hs : P s) :
    (runHandshake s).Holds (fun _ t => P t ∧ t.seq.phase = s.seq.phase ∧ t.mcs = .done)
      (fun _ t => P t ∧ t.seq.phase = s.seq.phase ∧ t.mcs = .notStarted ∧ noLineHeld t) := by
  have hbus := hP.handshakeDrive.driveBus
  have hk : (runSteps (handshake s.cfg) (setPhase .calibrating s)).Holds
      (fun _ t => P t ∧ t.mcs = .done) (fun _ t => P t) :=
    hP.keeps_handshake (s := setPhase .calibrating s) (hP (.seq _) hs)
  unfold runHandshake
  split
  · rename_i hr
    rw [hr] at hk
    obtain ⟨ht, hm⟩ := hk
    exact ⟨hP (.seq _) ht, rfl, hm⟩
  · rename_i hr
    rw [hr] at hk
    have hrel := hP.handshakeRelease.keeps_releaseHeldLines hk
    refine holds_andThen (holds_mono hrel (fun _ _ h => h) fun _ _ h => h.elim)
      fun _ u ⟨hu, hlines⟩ => ⟨?_, rfl, rfl, hlines⟩
    exact hbus (.raise _ _) (hbus.keeps_log _ _ (hP (.seq _) (hP.handshakeDrive (.mcs _) hu)))
  · trivial

end handshake

/-- MCS and the lines between two steps: settled, no line held before Done, and Done only after an attempt
(42_motor_calibration.md R200, R208, 10_state.md R28). -/
structure McsSettled (s : State) : Prop where
  settled : s.mcs = .done ∨ s.mcs = .notStarted
  noLineBeforeDone : s.mcs = .notStarted → noLineHeld s
  doneAttempted : s.mcs = .done → s.calAttempted = true

theorem McsSettled.ofDone {s : State} (h : s.mcs = .done) (ha : s.calAttempted = true) : McsSettled s where
  settled := .inl h
  noLineBeforeDone hn := by simp [h] at hn
  doneAttempted _ := ha

theorem McsSettled.ofNotStarted {s : State} (h : s.mcs = .notStarted) (hl : noLineHeld s) :
    McsSettled s where
  settled := .inr h
  noLineBeforeDone _ := hl
  doneAttempted hd := by simp [h] at hd

/-- The updates of CAL. -/
inductive CalUpdate (s : State) : State → Prop
  | handshake {t : State} (h : HandshakeUpdate s t) : CalUpdate s t
  | attempt : CalUpdate s { s with calAttempted := true }

theorem CalUpdate.frame {s t : State} (h : CalUpdate s t) : t = { s with
    env := t.env, chip := t.chip, tr := t.tr, err := t.err, seq := t.seq, mcs := t.mcs
    gpioSetting := t.gpioSetting, gpioPower := t.gpioPower, calAttempted := t.calAttempted } := by
  cases h with
  | handshake h => rw [h.frame]
  | attempt => rfl

/-- CAL keeps what its updates keep and the phase, and leaves MCS settled where it was
(42_motor_calibration.md R200, R202). -/
theorem Closed.keeps_calOp {P : State → Prop} (hP : Closed CalUpdate P) {s : State} (hs : P s) :
    (calOp s).Holds
      (fun _ t => P t ∧ t.seq.phase = s.seq.phase ∧ (McsSettled s → McsSettled t))
      (fun _ t => P t ∧ t.seq.phase = s.seq.phase ∧ (McsSettled s → McsSettled t)) := by
  have hhs : Closed HandshakeUpdate P := hP.mono fun _ _ => .handshake
  have hattempt := hP .attempt hs
  unfold calOp
  split
  · exact ⟨hs, rfl, id⟩
  split
  · split
    · exact ⟨hhs.handshakeDrive.driveBus (.raise _ _) hs, rfl,
        fun h => ⟨h.settled, h.noLineBeforeDone, h.doneAttempted⟩⟩
    · have hQ : Closed HandshakeUpdate fun t => P t ∧ t.calAttempted = true :=
        hhs.and (Closed.view _ _ fun _ _ h => by rw [h.frame])
      exact holds_mono (hQ.keeps_runHandshake ⟨hattempt, rfl⟩)
        (fun _ _ ⟨⟨ht, ha⟩, hphase, hm⟩ => ⟨ht, hphase, fun _ => .ofDone hm ha⟩)
        fun _ _ ⟨⟨ht, _⟩, hphase, hm, hl⟩ => ⟨ht, hphase, fun _ => .ofNotStarted hm hl⟩
  · exact ⟨hhs.handshakeDrive (.mcs _) hattempt, rfl, fun _ => .ofDone rfl rfl⟩

/-! ### TICK -/

section tick
variable {P : State → Prop} (hP : Closed TickUpdate P)
include hP

theorem Closed.tickBus : Closed BusUpdate P := hP.mono fun _ _ => .bus

variable (hcal : Act.Keeps P calOp)
include hcal

/-- Before a write of the motor channel a tick may run CAL, whose error it absorbs, and may log
(43_control_loop.md R238). -/
theorem Closed.keeps_motorPreamble (c : Channel) (lazy : Bool) : Act.Keeps P (motorPreamble c lazy) := by
  have hlazy : Act.Keeps P (lazyCal lazy) := fun s hs => by
    unfold lazyCal
    split
    · exact holds_absorb (hcal s hs)
    · exact hs
  intro s hs
  unfold motorPreamble
  split
  · refine holds_andThen (hlazy s hs) fun _ t ht => ?_
    unfold logUncal
    split
    · exact ht
    · exact hP.tickBus.keeps_log _ _ ht
  · exact hs

theorem Closed.keeps_channelWrite (c : Channel) (w : F32) (lazy : Bool) : Act.Keeps P (channelWrite c w lazy) := by
  intro s hs
  unfold channelWrite
  cases hd : mapDuty (s.cfg.cal.get c) w with
  | none =>
    rw [mapChannel_none hd]
    exact hP.tickBus.keeps_log _ _ (hP.tickBus (.raise _ _) hs)
  | some d =>
    rw [mapChannel_some hd]
    refine holds_andThen (hP.keeps_motorPreamble hcal c lazy s hs) fun _ t ht => holds_absorb ?_
    exact holds_mono (hP.tickBus.keeps_writeChannel c d t ht) (fun _ _ h => h)
      fun _ _ h => hP.tickBus.keeps_log _ _ h

theorem Closed.keeps_normalTick : Act.Keeps P normalTick := by
  refine holds_runSteps fun a ha => ?_
  simp only [List.mem_cons, List.not_mem_nil, or_false] at ha
  rcases ha with rfl | rfl | rfl
  · intro s hs
    cases hm : s.env.shm.head with
    | hang => simp [copySnapshot, hm]
    | got snap => rw [copySnapshot_got hm]; exact hP (.copy snap) hs
  · intro s hs
    unfold actuate
    split
    · refine holds_runSteps (fun b hb => ?_) s hs
      obtain ⟨c, -, rfl⟩ := List.mem_map.1 hb
      exact fun t ht => hP.keeps_channelWrite hcal _ _ _ _ (hP (.channel c) ht)
    · exact hs
  · exact hP.tickBus.keeps_delay _

theorem Closed.keeps_overrideTick : Act.Keeps P overrideTick := by
  intro s hs
  refine holds_runSteps (fun a ha => ?_) s hs
  simp only [List.mem_cons, List.not_mem_nil, or_false] at ha
  rcases ha with rfl | rfl
  · exact hP.keeps_channelWrite hcal _ _ _
  · exact hP.tickBus.keeps_delay _

/-- A tick's body keeps what its updates and CAL keep (43_control_loop.md R234 to R239). -/
theorem Closed.keeps_tickBody : Act.Keeps P tickBody := by
  intro s hs
  unfold tickBody
  split
  · refine holds_andThen (P := fun _ t => P t) ?_ fun _ t ht => ?_
    · cases hr : s.env.sensor.head with
      | hang => simp [senseClearance, hr]
      | got r =>
        rw [senseClearance_got hr]
        exact hP.tickBus (.event _ nofun nofun) (hP (.sense r) hs)
    · split
      · exact hP.keeps_overrideTick hcal t ht
      · exact hP.keeps_normalTick hcal t ht
  · exact hP.keeps_normalTick hcal s hs

end tick

end Sys2Proof.Machine
end

section
/-! Which instruction writes what (10_state.md R21, R26, R30): the instructions by what they are made of, and
the registers each leaves alone. -/
namespace Sys2Proof.Machine

/-- The instructions made of bus transfers alone: the frames, RESET and WRCH. -/
def OnlyTransfers (i : Instr) : Prop := i ∉ commandInstrs ∨ i = .opReset ∨ i = .opWrch

theorem onlyTransfers_or (i : Instr) : OnlyTransfers i ∨ i = .opOpen ∨ i = .opRdall ∨ i = .opPresc ∨
    i = .opMap ∨ i = .opCal ∨ i = .opTick ∨ i = .opRun ∨ i = .opShutdown := by
  by_cases hi : i ∈ commandInstrs
  · simp only [commandInstrs, List.mem_cons, List.not_mem_nil, or_false] at hi
    unfold OnlyTransfers
    tauto
  · exact .inl (.inl hi)

theorem Act.Keeps.outcome {P : State → Prop} {a : Act} {s t : State} (ha : Act.Keeps P a) (hs : P s)
    (he : (a s).outcome = .next t) : P t :=
  outcome_next_holds he (ha s hs)

/-- A register read that is done leaves ERR alone (60_exceptions.md R270). -/
theorem regRead_err (r : Byte) (s : State) :
    (regRead r s).Holds (fun _ t => t.err = s.err) (fun _ _ => True) := by
  have hw : (busWrite s.cfg.devAddr [r] s).Holds (fun _ t => t.err = s.err) (fun _ _ => True) := by
    rcases busWrite_cases s.cfg.devAddr [r] s with ⟨f, h⟩ | ⟨x, chip, -, -, h⟩ <;> rw [h] <;> trivial
  refine holds_andThen hw fun ok t ht => ?_
  split
  · have hr : (busRead r t).Holds (fun _ u => u.err = s.err) (fun _ _ => True) := by
      rcases busRead_cases r t with ⟨f, h⟩ | ⟨-, h⟩ | ⟨-, h⟩ <;> rw [h]
      · trivial
      · exact ht
      · exact ht
    refine holds_andThen hr fun v u hu => ?_
    split
    · exact hu
    · trivial
  · trivial

theorem readRegs_err (rs : List Byte) (s : State) :
    (readRegs rs s).Holds (fun _ t => t.err = s.err) (fun _ _ => True) := by
  induction rs generalizing s with
  | nil => rfl
  | cons r rest ih =>
    exact holds_andThen (regRead_err r s) fun _ t ht =>
      holds_andThen (ih t) fun _ _ hu => hu.trans ht

section transfers
variable {P : State → Prop} (hP : Closed BusUpdate P) {s t : State}
include hP

/-- What a bus transfer keeps, the frames, RESET and WRCH keep. -/
theorem Closed.keeps_transfers {i : Instr} (hi : OnlyTransfers i) (hs : P s)
    (he : exec i s = .next t) : P t := by
  have hc := hP .clear hs
  rcases instr_groups s.cfg i with rfl | ⟨r, v, hr⟩ | ⟨r, hr⟩ | hmem
  · exact (hP.keeps_needHandle (swrst_keeps hP.busKept)).outcome hs he
  · rw [exec_writeRow hr] at he
    exact (hP.keeps_needHandle (regWrite_keeps hP.busKept r v)).outcome hs he
  · rw [exec_readRow hr] at he
    have hread : Act.Keeps P (readFrame r) := fun u hu =>
      holds_andThen (regRead_keeps hP.busKept r u hu) fun _ _ h => h
    exact (hP.keeps_needHandle hread).outcome hs he
  · rcases hi with hi | rfl | rfl
    · exact absurd hmem hi
    · exact (hP.keeps_needHandle hP.keeps_resetOp).outcome hc he
    · have he' : execWrch s = .next t := he
      unfold execWrch at he'
      split at he'
      · exact outcome_next_holds he' (P := P) (hP (.raise _ _) hs)
      · refine (hP.keeps_needHandle fun u hu => ?_).outcome hc he'
        unfold wrchOp
        split
        · exact hP (.raise _ _) hu
        · exact hP.keeps_writeChannel _ _ u hu

/-- RDALL writes RES_SNAP, 67 bytes, where it raised nothing; otherwise it is transfers alone
(40_register_protocol.md R145). -/
theorem Closed.rdall_next (hs : P s) (he : exec .opRdall s = .next t) :
    (∃ u bytes, P u ∧ u.err = ⟨0, 0⟩ ∧ bytes.length = 67 ∧
      t = { u with resSnap := bytes, resSnapWritten := true }) ∨ P t := by
  have hc := hP .clear hs
  have he' : (needHandle rdallOp (clearErr s)).outcome = .next t := he
  refine outcome_next_holds (P := fun t => (∃ u bytes, P u ∧ u.err = ⟨0, 0⟩ ∧ bytes.length = 67 ∧
      t = { u with resSnap := bytes, resSnapWritten := true }) ∨ P t) he' ?_
  cases hh : (clearErr s).handle with
  | none => rw [needHandle_none _ _ hh]; exact .inr (hP (.raise _ _) hc)
  | some h =>
    rw [needHandle_some _ _ h hh]
    have hread := holds_and (readRegs_keeps hP.busKept (readAllOrder s.cfg) (clearErr s) hc)
      (holds_and (readRegs_err (readAllOrder s.cfg) (clearErr s))
        (readRegs_length (readAllOrder s.cfg) (clearErr s)))
    refine holds_andThen (holds_mono hread (fun _ _ h => h) fun _ _ h => .inr h.1) ?_
    intro bytes u ⟨hu, herr, hlen⟩
    exact .inl ⟨u, bytes, hu, herr, hlen.trans (readAllOrder_length s.cfg), rfl⟩

end transfers

/-- PRESC writes RES_PRESC where it raised nothing, and otherwise ERR alone (40_register_protocol.md
R141). -/
theorem exec_opPresc_next {s t : State} (he : exec .opPresc s = .next t) :
    (∃ p, t = { clearErr s with resPresc := p, resPrescWritten := true }) ∨
      ∃ k n, t = setErr k n (clearErr s) := by
  have he' : (prescOp s.argFreq (clearErr s)).outcome = .next t := he
  unfold prescOp at he'
  split at he'
  · exact .inr ⟨_, _, by simpa using he'.symm⟩
  · exact .inl ⟨_, by simpa using he'.symm⟩

/-- MAP writes RES_DUTY where it raised nothing, and otherwise ERR alone (41_duty_mapper.md R182). -/
theorem exec_opMap_next {s t : State} (he : exec .opMap s = .next t) :
    (∃ d, t = { clearErr s with resDuty := d, resDutyWritten := true }) ∨
      ∃ k n, t = setErr k n (clearErr s) := by
  have he' : (mapOp s.argCh s.argFrac (clearErr s)).outcome = .next t := he
  unfold mapOp at he'
  split at he'
  · exact .inr ⟨_, _, by simpa using he'.symm⟩
  · cases hd : mapDuty ((clearErr s).cfg.cal.get (Fin.ofNat 16 s.argCh.toNat)) s.argFrac with
    | none => rw [mapChannel_none hd] at he'; exact .inr ⟨_, _, by simpa using he'.symm⟩
    | some d => rw [mapChannel_some hd] at he'; exact .inl ⟨d, by simpa using he'.symm⟩

/-! ### The operations of the loop -/

/-- A tick is refused, a SHUTDOWN, or its body (43_control_loop.md R232, R233). -/
theorem holds_tickOp {E : State → Prop} {s : State} (hrefuse : ∀ k n, E (setErr k n s))
    (hshut : (shutdownOp s).Holds (fun _ t => E t) (fun _ _ => False))
    (hbody : (tickBody s).Holds (fun _ t => E t) (fun _ t => E t)) :
    (tickOp s).Holds (fun _ t => E t) (fun _ t => E t) := by
  unfold tickOp
  cases hh : s.handle with
  | none => rw [needHandle_none _ _ hh]; exact hrefuse _ _
  | some h =>
    rw [needHandle_some _ _ h hh]
    split
    · exact holds_mono hshut (fun _ _ h => h) fun _ _ h => h.elim
    · exact hbody

/-- RUN is an OPEN that is fatal where it raises, then SHUTDOWN after a CAL in mode CALIBRATE, and the loop
after a CAL or none in mode LOOP (43_control_loop.md R230, R231). -/
theorem holds_runOp {P E : State → Prop} {s : State} (calibrate : Bool)
    (hopen : (openOp (setPhase .init { s with runActive := true })).Holds (fun _ t => P t)
      (fun e t => E (fatal e t)))
    (hcal : Act.Keeps P calOp)
    (hshut : ∀ t, P t → (shutdownOp t).Holds (fun _ u => E u) (fun _ _ => False))
    (hrun : ∀ t, P t → E (setPhase .running t)) :
    (runOp calibrate s).Holds (fun _ t => E t) (fun _ t => E t) := by
  have hcalled : ∀ t, P t → ((calOp t).absorb keepGoing).Holds (fun _ u => P u) (fun _ u => E u) :=
    fun t ht => holds_absorb (hcal t ht)
  unfold runOp
  split
  · rename_i hr
    rw [hr] at hopen
    exact hopen
  · trivial
  · rename_i t hr
    rw [hr] at hopen
    unfold afterOpen
    split
    · exact holds_andThen (hcalled t hopen) fun _ u hu =>
        holds_mono (hshut u hu) (fun _ _ h => h) fun _ _ h => h.elim
    · refine holds_andThen (P := fun _ u => P u) ?_ fun _ u hu => hrun u hu
      split
      · exact hcalled t hopen
      · exact hopen

/-- RUN is refused, or one of its two modes from a cleared ERR (43_control_loop.md R230). -/
theorem exec_opRun_next {E : State → Prop} {s t : State} (hrefuse : ∀ k n, E (setErr k n s))
    (hrun : ∀ calibrate, (runOp calibrate (clearErr s)).Holds (fun _ u => E u) (fun _ u => E u))
    (he : exec .opRun s = .next t) : E t := by
  rw [exec_opRun] at he
  unfold execRun at he
  split at he
  · exact outcome_next_holds he (hrun false)
  · exact outcome_next_holds he (hrun true)
  · cases he
  · exact outcome_next_holds he (P := E) (hrefuse _ _)

/-! ### The statements -/

/-- MCS, CAL_ATTEMPTED, SNAP and CLR. -/
def loopFields (s : State) : Mcs × Bool × Snapshot × F64 := (s.mcs, s.calAttempted, s.snap, s.clr)

/-- The two GPIO lines. -/
def lines (s : State) : GpioLine × GpioLine := (s.gpioSetting, s.gpioPower)

/-- Outside CAL, TICK, RUN and SHUTDOWN no instruction writes a field of the loop or a line. -/
theorem exec_keeps_loopFields_lines {i : Instr} {s t : State} (he : exec i s = .next t)
    (hcal : i ≠ .opCal) (htick : i ≠ .opTick) (hrun : i ≠ .opRun) (hshut : i ≠ .opShutdown) :
    loopFields t = loopFields s ∧ lines t = lines s := by
  have hP : Closed OpenUpdate fun u => loopFields u = loopFields s ∧ lines u = lines s :=
    (Closed.view loopFields _ fun _ _ h => by rw [h.frame]; rfl).and
      (Closed.view lines _ fun _ _ h => by rw [h.frame]; rfl)
  have hbus := hP.openBus
  rcases onlyTransfers_or i with hi | rfl | rfl | rfl | rfl | rfl | rfl | rfl | rfl
  · exact hbus.keeps_transfers hi ⟨rfl, rfl⟩ he
  · exact outcome_next_holds he (holds_mono (hP.keeps_openOp (s := clearErr s) ⟨rfl, rfl⟩)
      (fun _ _ h => h.1) fun _ _ h => h.1)
  · rcases hbus.rdall_next ⟨rfl, rfl⟩ he with ⟨u, bytes, hu, -, -, rfl⟩ | ht
    · exact hu
    · exact ht
  · rcases exec_opPresc_next he with ⟨p, rfl⟩ | ⟨k, n, rfl⟩ <;> exact ⟨rfl, rfl⟩
  · rcases exec_opMap_next he with ⟨d, rfl⟩ | ⟨k, n, rfl⟩ <;> exact ⟨rfl, rfl⟩
  · exact absurd rfl hcal
  · exact absurd rfl htick
  · exact absurd rfl hrun
  · exact absurd rfl hshut

/-- SHUTDOWN writes no field of the loop (43_control_loop.md R240). -/
theorem exec_opShutdown_loopFields {s t : State} (he : exec .opShutdown s = .next t) :
    loopFields t = loopFields s := by
  have hP : Closed ShutdownUpdate fun u => loopFields u = loopFields s :=
    Closed.view loopFields _ fun _ _ h => by rw [h.frame]; rfl
  exact outcome_next_holds he (holds_mono (hP.keeps_shutdownOp (s := clearErr s) rfl)
    (fun _ _ h => h.1) fun _ _ h => h.elim)

/-- Settles O56: SHUTDOWN by its updates, every other instruction by the updates of OPEN. -/
theorem onlyTheLoopTouchesCalibration : Obligations.OnlyTheLoopTouchesCalibration := by
  intro i s t he hcal htick hrun
  have hfields : loopFields t = loopFields s ∧ (i ≠ .opShutdown → lines t = lines s) := by
    by_cases hshut : i = .opShutdown
    · subst hshut
      exact ⟨exec_opShutdown_loopFields he, fun h => absurd rfl h⟩
    · have h := exec_keeps_loopFields_lines he hcal htick hrun hshut
      exact ⟨h.1, fun _ => h.2⟩
  simpa only [loopFields, lines, Prod.mk.injEq, and_assoc] using hfields

/-- The three result registers with their marks. -/
def results (s : State) : (Duty × Bool) × (Byte × Bool) × (List Byte × Bool) :=
  ((s.resDuty, s.resDutyWritten), (s.resPresc, s.resPrescWritten), (s.resSnap, s.resSnapWritten))

section results
variable {s₀ : State}

theorem results_open : Closed OpenUpdate fun s => results s = results s₀ :=
  Closed.view results _ fun _ _ h => by rw [h.frame]; rfl

theorem results_cal : Closed CalUpdate fun s => results s = results s₀ :=
  Closed.view results _ fun _ _ h => by rw [h.frame]; rfl

theorem results_shutdown : Closed ShutdownUpdate fun s => results s = results s₀ :=
  Closed.view results _ fun _ _ h => by rw [h.frame]; rfl

theorem results_tick : Closed TickUpdate fun s => results s = results s₀ :=
  Closed.view results _ fun _ _ h => by rw [h.frame]; rfl

theorem calOp_keeps_results : Act.Keeps (fun s => results s = results s₀) calOp := fun _ hs =>
  holds_mono (results_cal.keeps_calOp hs) (fun _ _ h => h.1) fun _ _ h => h.1

theorem shutdownOp_keeps_results {s : State} (hs : results s = results s₀) :
    (shutdownOp s).Holds (fun _ t => results t = results s₀) (fun _ _ => False) :=
  holds_mono (results_shutdown.keeps_shutdownOp hs) (fun _ _ h => h.1) fun _ _ h => h

theorem openOp_keeps_results : Act.Keeps (fun s => results s = results s₀) openOp := fun _ hs =>
  holds_mono (results_open.keeps_openOp hs) (fun _ _ h => h.1) fun _ _ h => h.1

end results

/-- No instruction but MAP, PRESC and RDALL writes a result register. -/
theorem exec_keeps_results {i : Instr} {s t : State} (he : exec i s = .next t)
    (hmap : i ≠ .opMap) (hpresc : i ≠ .opPresc) (hrdall : i ≠ .opRdall) : results t = results s := by
  rcases onlyTransfers_or i with hi | rfl | rfl | rfl | rfl | rfl | rfl | rfl | rfl
  · exact results_open.openBus.keeps_transfers hi rfl he
  · exact openOp_keeps_results.outcome (s := clearErr s) rfl he
  · exact absurd rfl hrdall
  · exact absurd rfl hpresc
  · exact absurd rfl hmap
  · exact calOp_keeps_results.outcome (s := clearErr s) rfl he
  · exact outcome_next_holds he (holds_tickOp (s := clearErr s) (fun _ _ => rfl)
      (shutdownOp_keeps_results rfl) (results_tick.keeps_tickBody calOp_keeps_results _ rfl))
  · exact exec_opRun_next (E := fun u => results u = results s) (fun _ _ => rfl) (fun calibrate =>
      holds_runOp calibrate (openOp_keeps_results _ rfl) calOp_keeps_results
        (fun _ h => shutdownOp_keeps_results h) fun _ h => h) he
  · exact outcome_next_holds he (holds_mono (shutdownOp_keeps_results (s := clearErr s) rfl)
      (fun _ _ h => h) fun _ _ h => h.elim)

theorem results_eq_iff (s t : State) : results t = results s ↔
    (t.resDuty = s.resDuty ∧ t.resDutyWritten = s.resDutyWritten) ∧
      (t.resPresc = s.resPresc ∧ t.resPrescWritten = s.resPrescWritten) ∧
      (t.resSnap = s.resSnap ∧ t.resSnapWritten = s.resSnapWritten) := by
  simp only [results, Prod.mk.injEq]

/-- Where all three registers were left alone, each was, whatever the condition. -/
theorem results_kept {s t : State} (h : results t = results s) (p q r : Prop) :
    (p → t.resDuty = s.resDuty ∧ t.resDutyWritten = s.resDutyWritten) ∧
      (q → t.resPresc = s.resPresc ∧ t.resPrescWritten = s.resPrescWritten) ∧
      (r → t.resSnap = s.resSnap ∧ t.resSnapWritten = s.resSnapWritten) :=
  have ⟨hduty, hpresc, hsnap⟩ := (results_eq_iff s t).1 h
  ⟨fun _ => hduty, fun _ => hpresc, fun _ => hsnap⟩

/-- Settles O58: MAP, PRESC and RDALL either write their own register and leave ERR clear, or leave all
three alone as every other instruction does. -/
theorem resultsAreWrittenByTheirOperation : Obligations.ResultsAreWrittenByTheirOperation := by
  intro i s t he
  by_cases hmap : i = .opMap
  · subst hmap
    rcases exec_opMap_next he with ⟨d, rfl⟩ | ⟨k, n, rfl⟩
    · exact ⟨fun h => by simp at h, fun _ => ⟨rfl, rfl⟩, fun _ => ⟨rfl, rfl⟩⟩
    · exact results_kept rfl _ _ _
  by_cases hpresc : i = .opPresc
  · subst hpresc
    rcases exec_opPresc_next he with ⟨p, rfl⟩ | ⟨k, n, rfl⟩
    · exact ⟨fun _ => ⟨rfl, rfl⟩, fun h => by simp at h, fun _ => ⟨rfl, rfl⟩⟩
    · exact results_kept rfl _ _ _
  by_cases hrdall : i = .opRdall
  · subst hrdall
    rcases results_open.openBus.rdall_next (s := s) rfl he with ⟨u, bytes, hu, herr, -, rfl⟩ | ht
    · obtain ⟨hduty, hpresc, -⟩ := (results_eq_iff s u).1 hu
      exact ⟨fun _ => hduty, fun _ => hpresc, fun h => by simp [herr] at h⟩
    · exact results_kept ht _ _ _
  · exact results_kept (exec_keeps_results he hmap hpresc hrdall) _ _ _

end Sys2Proof.Machine
end

section
/-! The invariant of the states between two steps, in three parts: the chip, the lines, the handle, ERR and
the trace, which every update keeps; MCS with the lines, which CAL settles; the phase, which a step settles. -/
namespace Sys2Proof.Machine

/-! ### The three parts -/

/-- The part of the invariant that no update of any operation breaks. -/
structure DeviceInv (s : State) : Prop where
  chipCanonical : s.chip.wf = true
  settingLine : s.gpioSetting.wf = true
  powerLine : s.gpioPower.wf = true
  powerAbsent : s.cfg.powerLinePresent = false → s.gpioPower.held = false
  handlePrescale : ∀ h, s.handle = some h → prescaleOf s.cfg.freqHz = some h.prescale
  lowPowerKnown : s.handle.isSome = true → (s.chip.lowPower s.cfg).isSome = true
  snapLength : s.resSnap.length = 67
  errCodes : s.err.code.toNat ≤ 5 ∧ (s.err.code = 0 → s.err.info = 0)
  lockFree : lockDiscipline s.tr

/-- The part of the invariant about the phase (60_exceptions.md R284). -/
structure PhaseSettled (s : State) : Prop where
  settled : s.seq.phase = .idle ∨ s.seq.phase = .running ∨ s.seq.phase = .halted 0 ∨
    s.seq.phase = .halted 1
  runningIsRun : s.runActive = true ↔ s.seq.phase = .running
  runningOpen : s.seq.phase = .running → s.handle.isSome = true
  haltedClosed : isHalted s = true → s.handle = none
  shutdownReleased : s.seq.phase = .halted 0 → noLineHeld s

/-- The invariant but for the phase. -/
def CoreInv (s : State) : Prop := DeviceInv s ∧ McsSettled s

theorem inv_iff (s : State) : Inv s ↔ CoreInv s ∧ PhaseSettled s := by
  constructor
  · intro h
    exact ⟨⟨⟨h.chipCanonical, h.settingLine, h.powerLine, h.powerAbsent, h.handlePrescale,
      h.lowPowerKnown, h.snapLength, h.errCodes, h.lockFree⟩,
      ⟨h.mcsSettled, h.noLineBeforeDone, h.doneAttempted⟩⟩,
      ⟨h.phaseSettled, h.runningIsRun, h.runningOpen, h.haltedClosed, h.shutdownReleased⟩⟩
  · rintro ⟨⟨hd, hm⟩, hp⟩
    exact {
      chipCanonical := hd.chipCanonical
      settingLine := hd.settingLine
      powerLine := hd.powerLine
      powerAbsent := hd.powerAbsent
      mcsSettled := hm.settled
      noLineBeforeDone := hm.noLineBeforeDone
      doneAttempted := hm.doneAttempted
      phaseSettled := hp.settled
      runningIsRun := hp.runningIsRun
      runningOpen := hp.runningOpen
      haltedClosed := hp.haltedClosed
      shutdownReleased := hp.shutdownReleased
      handlePrescale := hd.handlePrescale
      lowPowerKnown := hd.lowPowerKnown
      snapLength := hd.snapLength
      errCodes := hd.errCodes
      lockFree := hd.lockFree }

/-! ### What each part speaks of -/

/-- The fields `DeviceInv` speaks of. -/
def deviceFields (s : State) :
    Config × Chip × GpioLine × GpioLine × Option Handle × List Byte × ErrReg × List Event :=
  (s.cfg, s.chip, s.gpioSetting, s.gpioPower, s.handle, s.resSnap, s.err, s.tr)

/-- The fields `McsSettled` speaks of. -/
def mcsFields (s : State) : Mcs × Bool × GpioLine × GpioLine :=
  (s.mcs, s.calAttempted, s.gpioSetting, s.gpioPower)

/-- The fields `PhaseSettled` speaks of. -/
def phaseFields (s : State) : Phase × Bool × Option Handle × GpioLine × GpioLine :=
  (s.seq.phase, s.runActive, s.handle, s.gpioSetting, s.gpioPower)

section congr
variable {s t : State}

theorem DeviceInv.congr (h : DeviceInv s) (hf : deviceFields t = deviceFields s) : DeviceInv t := by
  simp only [deviceFields, Prod.mk.injEq] at hf
  obtain ⟨hcfg, hchip, hset, hpow, hhandle, hsnap, herr, htr⟩ := hf
  exact {
    chipCanonical := by rw [hchip]; exact h.chipCanonical
    settingLine := by rw [hset]; exact h.settingLine
    powerLine := by rw [hpow]; exact h.powerLine
    powerAbsent := by rw [hcfg, hpow]; exact h.powerAbsent
    handlePrescale := by rw [hcfg, hhandle]; exact h.handlePrescale
    lowPowerKnown := by rw [hcfg, hchip, hhandle]; exact h.lowPowerKnown
    snapLength := by rw [hsnap]; exact h.snapLength
    errCodes := by rw [herr]; exact h.errCodes
    lockFree := by rw [htr]; exact h.lockFree }

theorem McsSettled.congr (h : McsSettled s) (hf : mcsFields t = mcsFields s) : McsSettled t := by
  simp only [mcsFields, Prod.mk.injEq] at hf
  obtain ⟨hmcs, hatt, hset, hpow⟩ := hf
  exact {
    settled := by rw [hmcs]; exact h.settled
    noLineBeforeDone := by rw [hmcs, noLineHeld, hset, hpow]; exact h.noLineBeforeDone
    doneAttempted := by rw [hmcs, hatt]; exact h.doneAttempted }

theorem CoreInv.congr (h : CoreInv s) (hd : deviceFields t = deviceFields s)
    (hm : mcsFields t = mcsFields s) : CoreInv t :=
  ⟨h.1.congr hd, h.2.congr hm⟩

theorem isHalted_congr (h : t.seq.phase = s.seq.phase) : isHalted t = isHalted s := by
  rw [isHalted, isHalted, h]

theorem PhaseSettled.congr (h : PhaseSettled s) (hf : phaseFields t = phaseFields s) : PhaseSettled t := by
  simp only [phaseFields, Prod.mk.injEq] at hf
  obtain ⟨hphase, hact, hhandle, hset, hpow⟩ := hf
  exact {
    settled := by rw [hphase]; exact h.settled
    runningIsRun := by rw [hphase, hact]; exact h.runningIsRun
    runningOpen := by rw [hphase, hhandle]; exact h.runningOpen
    haltedClosed := by rw [isHalted_congr hphase, hhandle]; exact h.haltedClosed
    shutdownReleased := by rw [hphase, noLineHeld, hset, hpow]; exact h.shutdownReleased }

theorem Inv.congr (h : Inv s) (hd : deviceFields t = deviceFields s) (hm : mcsFields t = mcsFields s)
    (hp : phaseFields t = phaseFields s) : Inv t :=
  have ⟨hc, hs⟩ := (inv_iff s).1 h
  (inv_iff t).2 ⟨hc.congr hd hm, hs.congr hp⟩

end congr

/-! ### The phases a step ends in -/

section phases
variable {s t : State}

theorem inv_of_idle (hc : CoreInv s) (hp : s.seq.phase = .idle) (hr : s.runActive = false) : Inv s :=
  (inv_iff s).2 ⟨hc, {
    settled := .inl hp
    runningIsRun := by simp [hp, hr]
    runningOpen := by simp [hp]
    haltedClosed := by simp [isHalted, hp]
    shutdownReleased := by simp [hp] }⟩

theorem inv_of_running (hc : CoreInv s) (hp : s.seq.phase = .running) (hr : s.runActive = true)
    (hh : s.handle.isSome = true) : Inv s :=
  (inv_iff s).2 ⟨hc, {
    settled := .inr (.inl hp)
    runningIsRun := by simp [hp, hr]
    runningOpen := fun _ => hh
    haltedClosed := by simp [isHalted, hp]
    shutdownReleased := by simp [hp] }⟩

theorem inv_of_shutDown (hc : CoreInv s) (h : ShutDown s) : Inv s :=
  (inv_iff s).2 ⟨hc, {
    settled := .inr (.inr (.inl h.phase))
    runningIsRun := by simp [h.phase, h.inactive]
    runningOpen := by simp [h.phase]
    haltedClosed := fun _ => h.closed
    shutdownReleased := fun _ => h.released }⟩

theorem inv_of_fatal (hc : CoreInv s) (hp : s.seq.phase = .halted 1) (hr : s.runActive = false)
    (hh : s.handle = none) : Inv s :=
  (inv_iff s).2 ⟨hc, {
    settled := .inr (.inr (.inr hp))
    runningIsRun := by simp [hp, hr]
    runningOpen := by simp [hp]
    haltedClosed := fun _ => hh
    shutdownReleased := by simp [hp] }⟩

/-- The phase, the mark of RUN and the handle. -/
def control (s : State) : Phase × Bool × Option Handle := (s.seq.phase, s.runActive, s.handle)

/-- Outside Halted what leaves the phase, the mark of RUN and the handle alone leaves the phase settled. -/
theorem Inv.of_control (h : Inv s) (hn : isHalted s = false) (hc : CoreInv t)
    (ht : control t = control s) : Inv t := by
  simp only [control, Prod.mk.injEq] at ht
  obtain ⟨hphase, hact, hhandle⟩ := ht
  refine (inv_iff t).2 ⟨hc, ?_⟩
  exact {
    settled := by rw [hphase]; exact h.phaseSettled
    runningIsRun := by rw [hphase, hact]; exact h.runningIsRun
    runningOpen := by rw [hphase, hhandle]; exact h.runningOpen
    haltedClosed := by rw [isHalted_congr hphase, hn]; nofun
    shutdownReleased := fun h0 => by simp [isHalted, ← hphase, h0] at hn }

/-- Between two steps the port accepts operations in Idle alone. -/
theorem Inv.idle_of_accepts (h : Inv s) (hport : portAccepts s = true) : s.seq.phase = .idle := by
  obtain ⟨hrun, hhalt⟩ : s.runActive = false ∧ isHalted s = false := by simpa [portAccepts] using hport
  rcases h.phaseSettled with hp | hp | hp | hp
  · exact hp
  · simp [h.runningIsRun.2 hp] at hrun
  · simp [isHalted, hp] at hhalt
  · simp [isHalted, hp] at hhalt

end phases

/-! ### The updates keep the device's part -/

/-- An event other than the semaphore's leaves the lock free (20_memory.md R75). -/
theorem lockDiscipline_append {tr : List Event} (h : lockDiscipline tr) {e : Event} (hacq : e ≠ .semAcq)
    (hrel : e ≠ .semRel) : lockDiscipline (tr ++ [e]) := by
  have hfree : lockAfter .free e = .free := by
    cases e with
    | semAcq => exact absurd rfl hacq
    | semRel => exact absurd rfl hrel
    | _ => rfl
  unfold lockDiscipline at *
  rw [List.foldl_append, h]
  exact hfree

/-- The copy of the snapshot takes the lock and gives it back at once (43_control_loop.md R235). -/
theorem lockDiscipline_copy {tr : List Event} (h : lockDiscipline tr) :
    lockDiscipline (tr ++ [.semAcq] ++ [.semRel]) := by
  unfold lockDiscipline at *
  rw [List.foldl_append, List.foldl_append, h]
  rfl

theorem errCode_bounds (k : ErrKind) : (errCode k).toNat ≤ 5 ∧ errCode k ≠ 0 := by
  cases k <;> decide

theorem deviceInv_bus : Closed BusUpdate DeviceInv := by
  intro s t hR h
  cases hR with
  | write a bytes r chip hc =>
    exact { h with
      chipCanonical := receive_wf h.chipCanonical hc
      lowPowerKnown := fun hh => receive_lowPower (h.lowPowerKnown hh) hc
      lockFree := lockDiscipline_append h.lockFree nofun nofun }
  | read result => exact { h with lockFree := lockDiscipline_append h.lockFree nofun nofun }
  | raise k n =>
    exact { h with errCodes := ⟨(errCode_bounds k).1, fun h0 => absurd h0 (errCode_bounds k).2⟩ }
  | clear => exact { h with errCodes := ⟨Nat.zero_le 5, fun _ => rfl⟩ }
  | event e hacq hrel => exact { h with lockFree := lockDiscipline_append h.lockFree hacq hrel }

/-- Without a handle nothing is asked of one. -/
theorem DeviceInv.close {s : State} (h : DeviceInv s) : DeviceInv { s with handle := none } :=
  { h with handlePrescale := nofun, lowPowerKnown := nofun }

theorem deviceInv_open : Closed OpenUpdate DeviceInv := by
  intro s t hR h
  cases hR with
  | bus hb => exact deviceInv_bus hb h
  | storage => exact h.congr rfl
  | busOpen => exact h.congr rfl
  | close => exact h.close
  | opened x hp hl =>
    exact { h with
      handlePrescale := fun y hy => Option.some.inj hy ▸ hp
      lowPowerKnown := fun _ => hl }

/-- A line in form may replace a line; POWER is held only where it exists (10_state.md R30). -/
theorem DeviceInv.line {s : State} (h : DeviceInv s) (l : Line) {g : GpioLine} (hg : g.wf = true)
    (hl : l = .power → s.cfg.powerLinePresent = false → g.held = false) :
    DeviceInv (setGpioLine l g s) := by
  cases l with
  | setting => exact { h with settingLine := hg }
  | power => exact { h with powerLine := hg, powerAbsent := hl rfl }

theorem deviceInv_release : Closed ReleaseUpdate DeviceInv := by
  intro s t hR h
  cases hR with
  | bus hb => exact deviceInv_bus hb h
  | release l =>
    have henv : DeviceInv { s with env := s.env.dropRelease 1 } := h.congr rfl
    exact deviceInv_bus (.event _ nofun nofun) (henv.line l rfl fun _ _ => rfl)

/-- A held line may have any level; that POWER is held says that it exists. -/
theorem deviceInv_drive : Closed DriveUpdate DeviceInv := by
  intro s t hR h
  cases hR with
  | bus hb => exact deviceInv_bus hb h
  | gpioTaken => exact h.congr rfl
  | drive l level hl =>
    refine h.line l (by simp [GpioLine.wf, hl]) fun hpow habsent => ?_
    subst hpow
    exact h.powerAbsent habsent
  | mcs m => exact h.congr rfl

theorem deviceInv_cal : Closed CalUpdate DeviceInv := by
  intro s t hR h
  cases hR with
  | attempt => exact h.congr rfl
  | handshake hR =>
    cases hR with
    | drive hd => exact deviceInv_drive hd h
    | release hr => exact deviceInv_release hr h
    | request l held hl =>
      exact h.line l (by simp [GpioLine.wf]) fun hpow habsent => by simp [hl hpow] at habsent
    | seq q => exact h.congr rfl

/-! ### The updates outside CAL keep MCS settled -/

theorem coreInv_bus : Closed BusUpdate CoreInv :=
  deviceInv_bus.and fun _ _ hR h => h.congr (by rw [hR.busOnly]; rfl)

theorem coreInv_open : Closed OpenUpdate CoreInv :=
  deviceInv_open.and fun _ _ hR h => h.congr (by rw [hR.frame]; rfl)

/-- The release of a line leaves the other as it was. -/
theorem noLineHeld_markReleased {s : State} (l : Line) (h : noLineHeld s) : noLineHeld (markReleased l s) := by
  cases l with
  | setting => exact ⟨rfl, h.2⟩
  | power => exact ⟨h.1, rfl⟩

theorem coreInv_release : Closed ReleaseUpdate CoreInv := by
  refine deviceInv_release.and fun s t hR h => ?_
  have hm : t.mcs = s.mcs := by rw [hR.frame]
  have ha : t.calAttempted = s.calAttempted := by rw [hR.frame]
  refine ⟨hm ▸ h.settled, fun hn => ?_, by rw [hm, ha]; exact h.doneAttempted⟩
  have hlines := h.noLineBeforeDone (hm ▸ hn)
  cases hR with
  | bus hb => exact ⟨hb.busOnly.gpioSetting ▸ hlines.1, hb.busOnly.gpioPower ▸ hlines.2⟩
  | release l => exact noLineHeld_markReleased l hlines

theorem coreInv_shutdown : Closed ShutdownUpdate CoreInv := by
  intro s t hR h
  cases hR with
  | release hr => exact coreInv_release hr h
  | close => exact ⟨h.1.close, h.2.congr rfl⟩
  | seq q => exact h.congr rfl rfl
  | inactive => exact h.congr rfl rfl

theorem coreInv_tick : Closed TickUpdate CoreInv := by
  refine Closed.and (fun s t hR h => ?_) fun _ _ hR h => h.congr (by rw [hR.frame]; rfl)
  cases hR with
  | bus hb => exact deviceInv_bus hb h
  | sense r => exact h.congr rfl
  | copy snap => exact { h with lockFree := lockDiscipline_copy h.lockFree }
  | channel c => exact h.congr rfl

/-! ### The operations -/

/-- CAL keeps the invariant but for the phase, and leaves the phase, the mark of RUN and the handle alone
(42_motor_calibration.md R200, R202). -/
theorem calOp_keeps_coreInv (x : Phase × Bool × Option Handle) :
    Act.Keeps (fun s => CoreInv s ∧ control s = x) calOp := by
  intro s ⟨hs, hx⟩
  have hP : Closed CalUpdate fun t => DeviceInv t ∧ t.runActive = s.runActive ∧ t.handle = s.handle :=
    deviceInv_cal.and ((Closed.view State.runActive _ fun _ _ h => by rw [h.frame]).and
      (Closed.view State.handle _ fun _ _ h => by rw [h.frame]))
  have fin : ∀ t : State, (DeviceInv t ∧ t.runActive = s.runActive ∧ t.handle = s.handle) ∧
      t.seq.phase = s.seq.phase ∧ (McsSettled s → McsSettled t) → CoreInv t ∧ control t = x := by
    rintro t ⟨⟨hd, hact, hhandle⟩, hphase, hm⟩
    exact ⟨⟨hd, hm hs.2⟩, by rw [← hx, control, control, hphase, hact, hhandle]⟩
  exact holds_mono (hP.keeps_calOp ⟨hs.1, rfl, rfl⟩) (fun _ t h => fin t h) fun _ t h => fin t h

/-- SHUTDOWN ends in a state with the invariant (43_control_loop.md R240). -/
theorem shutdownOp_inv {s : State} (hs : CoreInv s) :
    (shutdownOp s).Holds (fun _ t => Inv t) (fun _ _ => False) :=
  holds_mono (coreInv_shutdown.keeps_shutdownOp hs) (fun _ _ h => inv_of_shutDown h.1 h.2) fun _ _ h => h

section step
variable {s t : State}

/-- A tick outside Halted keeps the invariant. -/
theorem tickOp_inv (hs : Inv s) (hn : isHalted s = false) :
    (tickOp s).Holds (fun _ t => Inv t) (fun _ t => Inv t) := by
  have hc := ((inv_iff s).1 hs).1
  have hP : Closed TickUpdate fun t => CoreInv t ∧ control t = control s :=
    coreInv_tick.and (Closed.view control _ fun _ _ h => by rw [h.frame]; rfl)
  refine holds_tickOp (fun k n => ?_) (shutdownOp_inv hc) ?_
  · exact hs.of_control hn (coreInv_bus (.raise k n) hc) rfl
  · exact holds_mono (hP.keeps_tickBody (calOp_keeps_coreInv _) s ⟨hc, rfl⟩)
      (fun _ _ h => hs.of_control hn h.1 h.2) fun _ _ h => hs.of_control hn h.1 h.2

theorem inv_clearErr (h : Inv s) (hn : isHalted s = false) : Inv (clearErr s) :=
  h.of_control hn (coreInv_bus .clear ((inv_iff s).1 h).1) rfl

/-- OPEN, done or not, keeps the invariant in Idle (40_register_protocol.md R142). -/
theorem openOp_inv (hs : CoreInv s) (hp : s.seq.phase = .idle) (hr : s.runActive = false) :
    (openOp s).Holds (fun _ t => Inv t) (fun _ t => Inv t) := by
  have hP : Closed OpenUpdate fun t => CoreInv t ∧ t.seq.phase = .idle ∧ t.runActive = false :=
    coreInv_open.and ((Closed.view (fun t => t.seq.phase) _ fun _ _ h => by rw [h.frame]).and
      (Closed.view State.runActive _ fun _ _ h => by rw [h.frame]))
  exact holds_mono (hP.keeps_openOp ⟨hs, hp, hr⟩)
    (fun _ _ ⟨⟨h, hp, hr⟩, _⟩ => inv_of_idle h hp hr) fun _ _ ⟨⟨h, hp, hr⟩, _⟩ => inv_of_idle h hp hr

/-- RUN ends halted after an error of OPEN or a SHUTDOWN, and running otherwise (43_control_loop.md R230,
R231). -/
theorem runOp_inv (calibrate : Bool) (hs : CoreInv s) :
    (runOp calibrate s).Holds (fun _ t => Inv t) (fun _ t => Inv t) := by
  have hinit : CoreInv (setPhase .init { s with runActive := true }) := hs.congr rfl rfl
  have hP : Closed OpenUpdate fun t => CoreInv t ∧ t.runActive = true :=
    coreInv_open.and (Closed.view State.runActive _ fun _ _ h => by rw [h.frame])
  refine holds_runOp (P := fun t => CoreInv t ∧ t.runActive = true ∧ t.handle.isSome = true) calibrate
    ?_ ?_ (fun t ht => shutdownOp_inv ht.1) fun t ht => ?_
  · refine holds_mono (hP.keeps_openOp ⟨hinit, rfl⟩) (fun _ _ ⟨⟨hc, hr⟩, hh⟩ => ⟨hc, hr, hh⟩) ?_
    intro e t ⟨⟨hc, _⟩, hh⟩
    have hlog : CoreInv (logEvent .fatal ((errCode e.kind).setWidth 16) t) := coreInv_bus.keeps_log _ _ hc
    have hhalt := coreInv_shutdown (.seq ⟨.halted 1, t.seq.idx⟩) (coreInv_shutdown .inactive hlog)
    exact inv_of_fatal (coreInv_bus (.event (.exit 1) nofun nofun) hhalt) rfl rfl hh
  · intro t ⟨hc, hr, hh⟩
    have fin : ∀ u : State, CoreInv u ∧ control u = control t →
        CoreInv u ∧ u.runActive = true ∧ u.handle.isSome = true := by
      rintro u ⟨hu, hctl⟩
      simp only [control, Prod.mk.injEq] at hctl
      exact ⟨hu, hctl.2.1 ▸ hr, hctl.2.2 ▸ hh⟩
    exact holds_mono (calOp_keeps_coreInv _ t ⟨hc, rfl⟩) (fun _ u h => fin u h) fun _ u h => fin u h
  · obtain ⟨hc, hr, hh⟩ := ht
    exact inv_of_running (hc.congr rfl rfl) rfl hr hh

/-- Where the port accepts it, every instruction keeps the invariant. -/
theorem exec_inv {i : Instr} (hs : Inv s) (hport : portAccepts s = true) (he : exec i s = .next t) :
    Inv t := by
  have hidle := hs.idle_of_accepts hport
  obtain ⟨hrun, hn⟩ : s.runActive = false ∧ isHalted s = false := by simpa [portAccepts] using hport
  have hclear := inv_clearErr hs hn
  have hc := ((inv_iff s).1 hs).1
  have hcc := ((inv_iff _).1 hclear).1
  have hbus : Closed BusUpdate fun u => CoreInv u ∧ control u = control s :=
    coreInv_bus.and (Closed.view control _ fun _ _ h => by rw [h.busOnly]; rfl)
  have fin : ∀ u : State, CoreInv u ∧ control u = control s → Inv u := fun u h =>
    hs.of_control hn h.1 h.2
  have hraise : ∀ k n, Inv (setErr k n (clearErr s)) := fun k n =>
    fin _ (hbus (.raise k n) (hbus .clear ⟨hc, rfl⟩))
  rcases onlyTransfers_or i with hi | rfl | rfl | rfl | rfl | rfl | rfl | rfl | rfl
  · exact fin t (hbus.keeps_transfers hi ⟨hc, rfl⟩ he)
  · exact outcome_next_holds he (openOp_inv hcc hidle hrun)
  · rcases hbus.rdall_next ⟨hc, rfl⟩ he with ⟨u, bytes, ⟨hu, hctl⟩, -, hlen, rfl⟩ | ht
    · exact fin _ ⟨⟨{ hu.1 with snapLength := hlen }, hu.2.congr rfl⟩, hctl⟩
    · exact fin t ht
  · rcases exec_opPresc_next he with ⟨p, rfl⟩ | ⟨k, n, rfl⟩
    · exact hclear.congr rfl rfl rfl
    · exact hraise k n
  · rcases exec_opMap_next he with ⟨d, rfl⟩ | ⟨k, n, rfl⟩
    · exact hclear.congr rfl rfl rfl
    · exact hraise k n
  · exact fin t ((calOp_keeps_coreInv _).outcome (s := clearErr s) ⟨hcc, rfl⟩ he)
  · exact outcome_next_holds he (tickOp_inv hclear hn)
  · exact exec_opRun_next (fun k n => fin _ (hbus (.raise k n) ⟨hc, rfl⟩))
      (fun calibrate => runOp_inv calibrate hcc) he
  · exact outcome_next_holds he (holds_mono (shutdownOp_inv hcc) (fun _ _ h => h) fun _ _ h => h.elim)

/-! ### The step -/

/-- The block reset gives the invariant on any chip in form (70_reset_and_hazards.md R311). -/
theorem inv_resetWith (cfg : Config) {chip : Chip} (hchip : chip.wf = true) (env : Env) (inbox : List Input) :
    Inv (State.resetWith cfg chip env inbox) := by
  refine inv_of_idle ⟨?_, .ofNotStarted rfl ⟨rfl, rfl⟩⟩ rfl rfl
  exact {
    chipCanonical := hchip
    settingLine := rfl
    powerLine := rfl
    powerAbsent := fun _ => rfl
    handlePrescale := nofun
    lowPowerKnown := nofun
    snapLength := List.length_replicate
    errCodes := ⟨Nat.zero_le 5, fun _ => rfl⟩
    lockFree := rfl }

/-- What a turn is from which the step keeps the invariant. -/
def Turn.Sound : Turn → Prop
  | .settle s => Inv s
  | .run _ s => Inv s ∧ portAccepts s = true
  | .tick s => Inv s ∧ s.runActive = true
  | .fault _ => True
  | .refuse _ => True

theorem readResult_sound (hs : Inv s) (r : ResultReg) : (readResult r s).Sound := by
  unfold readResult
  split
  · exact hs
  · trivial

/-- The command's byte stands in CMD, of which the invariant does not speak. -/
theorem inv_noteCommand (hs : Inv s) (w : PortWord) : Inv (noteCommand w s) := by
  cases w with
  | cmd code => exact hs.congr rfl rfl rfl
  | frame a bytes => exact hs

theorem portAccepts_noteCommand (w : PortWord) (s : State) :
    portAccepts (noteCommand w s) = portAccepts s := by
  cases w <;> rfl

theorem issueWord_sound (hs : Inv s) (hport : portAccepts s = true) (w : PortWord) :
    (issueWord w s).Sound := by
  have hnote := inv_noteCommand hs w
  have hport' : portAccepts (noteCommand w s) = true := (portAccepts_noteCommand w s).trans hport
  unfold issueWord
  split
  · exact ⟨hnote, hport'⟩
  · obtain ⟨-, hn⟩ : _ ∧ isHalted (noteCommand w s) = false := by
      simpa [portAccepts] using hport'
    exact hnote.of_control hn (coreInv_bus (.raise _ _) ((inv_iff _).1 hnote).1) rfl
  · trivial

theorem acceptAction_sound (hs : Inv s) (hport : portAccepts s = true) (a : PortAction) :
    (acceptAction a s).Sound := by
  cases a with
  | idle => exact hs
  | writeArgCh v => exact hs.congr rfl rfl rfl
  | writeArgDuty v => exact hs.congr rfl rfl rfl
  | writeArgFrac v => exact hs.congr rfl rfl rfl
  | writeArgFreq v => exact hs.congr rfl rfl rfl
  | writeArgMode v => exact hs.congr rfl rfl rfl
  | issue w => exact issueWord_sound hs hport w
  | readResult r => exact readResult_sound hs r
  | blockReset => exact inv_resetWith s.cfg hs.chipCanonical s.env s.inbox

/-- Whatever the phase and the host's action, the turn is sound (60_exceptions.md R284). -/
theorem arbitrate_sound (hs : Inv s) (a : PortAction) : (arbitrate a s).Sound := by
  unfold arbitrate
  split
  · exact inv_resetWith s.cfg hs.chipCanonical s.env s.inbox
  split
  · exact ⟨hs, ‹_›⟩
  rename_i hrun
  split
  · split
    · exact readResult_sound hs _
    · exact hs
  · rename_i hhalt
    exact acceptAction_sound hs (by simp [portAccepts, hrun, hhalt]) a

/-- A sound turn's step ends in a state with the invariant. -/
theorem Inv.of_turn (hw : s.cfg.wf = true) (h : (arbitrate (nextAction s) (takeInput s)).Sound)
    (he : step s = .next t) : Inv t := by
  rw [step, if_pos hw] at he
  cases hturn : arbitrate (nextAction s) (takeInput s) with
  | settle u =>
    rw [hturn] at he h
    cases he
    exact h
  | run i u =>
    rw [hturn] at he h
    exact exec_inv h.1 h.2 he
  | tick u =>
    rw [hturn] at he h
    obtain ⟨hu, hact⟩ := h
    have hn : isHalted u = false := by simp [isHalted, hu.runningIsRun.1 hact]
    exact outcome_next_holds he (tickOp_inv hu hn)
  | fault f => rw [hturn] at he; cases he
  | refuse r => rw [hturn] at he; cases he

end step

/-- Settles O54: taking the input leaves the invariant, the turn that follows is sound, and what a sound turn
runs keeps it. -/
theorem everyStepKeepsTheInvariant : Obligations.EveryStepKeepsTheInvariant := by
  intro s t hs he
  cases hw : s.cfg.wf with
  | false => rw [step_of_not_wf hw] at he; cases he
  | true =>
    have htaken : Inv (takeInput s) := hs.congr rfl rfl rfl
    exact Inv.of_turn hw (arbitrate_sound htaken _) he

end Sys2Proof.Machine
end

section
/-! The bus frames one by one (20_memory.md R62 to R66): what a WR row, an RD row and the reset broadcast leave
with each answer of the bus, and what the edge registers of a channel show after its four writes (R72, R84). -/
namespace Sys2Proof.Machine

/-! ### The bus's next answers -/

section answers
variable {e : Env}

theorem busOkFor_one : e.busOkFor 1 = true ↔ e.bus.head = .got .ok := by
  simp [Env.busOkFor]

theorem busOkFor_two :
    e.busOkFor 2 = true ↔ e.bus.head = .got .ok ∧ e.bus.tail.head = .got .ok := by
  rw [busOkFor_succ, busOkFor_one, dropBus_bus, tail_eq_drop]

theorem busFailsAt_zero {n : Nat} : e.busFailsAt 0 n = true ↔ e.bus.head = .got (.fail n) := by
  simp [Env.busFailsAt, Env.busOkFor]

theorem busFailsAt_one {n : Nat} :
    e.busFailsAt 1 n = true ↔ e.bus.head = .got .ok ∧ e.bus.tail.head = .got (.fail n) := by
  simp [Env.busFailsAt, busOkFor_one, tail_eq_drop]

end answers

/-! ### A register write the chip can take -/

section regwr
variable {s : State} {r v : Byte}

/-- The chip takes every register write, that of PRESCALE in low-power mode (70_reset_and_hazards.md R322). -/
theorem store_of_lowPower {cfg : Config} {chip : Chip}
    (hl : r = regPrescale → chip.lowPower cfg = some true) :
    chip.store cfg r v = some (chip.withReg r v) :=
  if_neg fun ⟨hr, hn⟩ => hn (hl hr)

/-- REGWR answered `ok`, of any register the chip can take (20_memory.md R64). -/
theorem regWrite_taken (hw : s.cfg.wf = true)
    (hl : r = regPrescale → s.chip.lowPower s.cfg = some true) (hb : s.env.bus.head = .got .ok) :
    regWrite r v s = .done () { s with
      env := s.env.dropBus 1
      tr := s.tr ++ [regwrEvent s.cfg r v true]
      chip := s.chip.withReg r v } := by
  by_cases hr : r = regPrescale
  · subst hr
    exact regWrite_prescale_ok hw (hl rfl) hb
  · exact regWrite_ok hw hr hb

/-- What a failed write transfer does to the chip: the register is new where both bytes had arrived, else
nothing is (20_memory.md R62). -/
theorem receive_failed_write {cfg : Config} {chip : Chip} (hw : cfg.wf = true)
    (hl : r = regPrescale → chip.lowPower cfg = some true) (n : Nat) :
    chip.receive cfg cfg.devAddr ((TransferResult.fail n).arrived [r, v]) =
      some (if 2 ≤ n then chip.withReg r v else chip) := by
  rw [TransferResult.arrived]
  split
  · rename_i hn
    rw [List.take_of_length_le hn, receive_write hw, store_of_lowPower hl]
  · refine receive_short hw ?_
    simp only [List.length_take, List.length_cons, List.length_nil]
    omega

/-- REGWR answered `fail`: BusTransferError with phase 0 and the register (60_exceptions.md R272). -/
theorem regWrite_failed {n : Nat} (hw : s.cfg.wf = true)
    (hl : r = regPrescale → s.chip.lowPower s.cfg = some true) (hb : s.env.bus.head = .got (.fail n)) :
    regWrite r v s = .raised ⟨.busTransfer, infoWord 0x00 r⟩ { s with
      env := s.env.dropBus 1
      tr := s.tr ++ [regwrEvent s.cfg r v false]
      err := ⟨1, infoWord 0x00 r⟩
      chip := if 2 ≤ n then s.chip.withReg r v else s.chip } := by
  simp [regWrite, busWrite, hb, receive_failed_write hw hl, TransferResult.isOk, emit, setErr, errCode,
    regwrEvent, busTail_eq]

/-- REGWR of PRESCALE answered `ok` by a chip not known to be in low-power mode stops the machine
(70_reset_and_hazards.md R322, log 10). -/
theorem regWrite_prescale_awake (hw : s.cfg.wf = true) (hl : s.chip.lowPower s.cfg ≠ some true)
    (hb : s.env.bus.head = .got .ok) : regWrite regPrescale v s = .stopped .prescaleWhileActive := by
  have hstore : s.chip.store s.cfg regPrescale v = none := if_pos ⟨rfl, hl⟩
  simp [regWrite, busWrite, hb, TransferResult.arrived, receive_write hw, hstore]

end regwr

/-! ### The frames -/

section frames
variable {s : State} {i : Instr} {r v : Byte} {h : Handle}

/-- A WR row on an open handle ends as its REGWR does (30_encoding.md R106). -/
theorem exec_writeRow_open (hr : WriteRow s.cfg i r v) (hh : s.handle = some h) :
    exec i s = (regWrite r v s).outcome := by
  rw [exec_writeRow hr, issueFrame_some hh]

/-- An RD row on an open handle ends as its REGRD does (30_encoding.md R106). -/
theorem exec_readRow_open (hr : ReadRow s.cfg i r) (hh : s.handle = some h) :
    exec i s = (readFrame r s).outcome := by
  rw [exec_readRow hr, issueFrame_some hh]

/-- An RD row whose two transfers answer `ok` appends its two events with what the register reads as, and
changes nothing else (20_memory.md R65). -/
theorem exec_readRow_ok (hw : s.cfg.wf = true) (hr : ReadRow s.cfg i r) (hh : s.handle = some h)
    (hb : s.env.busOkFor 2 = true) (hv : s.chip.load s.cfg r = v) :
    exec i s = .next { s with
      env := s.env.dropBus 2
      tr := s.tr ++ regrdEvents s.cfg r v } := by
  obtain ⟨h1, h2⟩ := busOkFor_two.1 hb
  rw [exec_readRow_open hr hh, readFrame, regRead_ok hw h1 h2, hv]
  simp [emit, regrdEvents]

/-- A WR row answered `ok` that leads to a next state did not write PRESCALE on a chip that is awake. -/
theorem lowPower_of_exec_writeRow {t : State} (hw : s.cfg.wf = true) (hr : WriteRow s.cfg i r v)
    (hh : s.handle = some h) (hb : s.env.bus.head = .got .ok) (he : exec i s = .next t) :
    r = regPrescale → s.chip.lowPower s.cfg = some true := by
  rintro rfl
  by_contra hl
  rw [exec_writeRow_open hr hh, regWrite_prescale_awake hw hl hb] at he
  cases he

end frames

/-- Settles O14: a WR row is its REGWR, which the chip takes; the memory's frame is that of one write. -/
theorem writeFramesStoreTheirByte : Obligations.WriteFramesStoreTheirByte := by
  intro s i r v h hw hr hh hl hb
  refine ⟨?_, fun a => Memory.read_write _ _ _ _⟩
  rw [exec_writeRow_open hr hh, regWrite_taken hw hl (busOkFor_one.1 hb)]
  rfl

/-- Settles O15: a WR row is its REGWR, whose register is new where both bytes had arrived. -/
theorem failedWriteFramesRaise : Obligations.FailedWriteFramesRaise := by
  intro s i r v h n hw hr hh hl hb
  rw [exec_writeRow_open hr hh, regWrite_failed hw hl (busFailsAt_zero.1 hb)]
  rfl

/-- Settles O17: an RD row is its REGRD, the byte it answers dropped. -/
theorem readFramesAnswerTheRegister : Obligations.ReadFramesAnswerTheRegister := by
  intro s i r h hw hr hh hb
  exact ⟨exec_readRow_ok hw hr hh hb rfl, fun b => load_written⟩

/-- Settles O18: an RD row is its REGRD, which raises in the phase that fails. -/
theorem failedReadFramesRaise : Obligations.FailedReadFramesRaise := by
  intro s i r h n hw hr hh
  rw [exec_readRow_open hr hh, readFrame]
  constructor
  · intro hb
    rw [regRead_addressFail hw (busFailsAt_zero.1 hb)]
    rfl
  · intro hb
    obtain ⟨h1, h2⟩ := busFailsAt_one.1 hb
    rw [regRead_dataFail hw h1 h2]
    simp [emit, setErr, errCode]

/-- Settles O19: the write led on, so the chip took it (O14), and the read answers what the register reads as
(O17), the byte written. -/
theorem readAfterWriteAnswersTheByte : Obligations.ReadAfterWriteAnswersTheByte := by
  intro s t i j r v h hw hwr hrd hh hb he
  obtain ⟨hb1, hb2⟩ := (busOkFor_add 1 2).1 hb
  have hl := lowPower_of_exec_writeRow hw hwr hh (busOkFor_one.1 hb1) he
  obtain rfl : _ = t := Host.Outcome.next.inj
    ((writeFramesStoreTheirByte s i r v h hw hwr hh hl hb1).1.symm.trans he)
  have hload : (s.chip.withReg r v).load s.cfg r = v := by rw [load_withReg, if_pos rfl]
  exact exec_readRow_ok hw hrd hh hb2 hload

/-! ### The reset broadcast -/

/-- From SWRST until MODE1 is written every output is de-asserted (20_memory.md R71(a)). -/
theorem output_of_resetMode1 {cfg : Config} {chip : Chip} (hr : chip.resetMode1 = true) (c : Channel) :
    chip.output cfg c = .deasserted := by
  simp [Chip.output, hr]

/-- After SWRST MODE1 reads with the sleep bit set (20_memory.md R72). -/
theorem load_mode1_softwareReset {cfg : Config} (hw : cfg.wf = true) (chip : Chip) :
    lowPowerBit cfg (chip.softwareReset.load cfg regMode1) = true := by
  rw [load_mode1_after_reset rfl rfl]
  exact resetMode1Byte_low_power hw _

/-- Settles O20, with the chip SWRST leaves as the witness. -/
theorem swrstResetsTheChip : Obligations.SwrstResetsTheChip := by
  intro s h n hw hh
  rw [exec_swrst, issueFrame_some hh]
  constructor
  · intro hb
    refine ⟨s.chip.softwareReset, ?_, fun a => rfl, rfl, load_mode1_softwareReset hw s.chip,
      output_of_resetMode1 rfl⟩
    rw [swrst_ok (busOkFor_one.1 hb)]
    rfl
  · intro hb
    rw [swrst_fail (busFailsAt_zero.1 hb)]
    rfl

/-! ### The registers after the four writes of a channel -/

section channel
variable {cfg : Config} {chip : Chip} {c : Channel} {d : Duty}

/-- The chip after the four writes of a WRCH (40_register_protocol.md R144). -/
def Chip.withDuty (cfg : Config) (chip : Chip) (c : Channel) (d : Duty) : Chip :=
  { chip with regs := wrchRegs cfg c d chip.regs }

@[simp] theorem withDuty_regs : (chip.withDuty cfg c d).regs = wrchRegs cfg c d chip.regs := rfl
@[simp] theorem withDuty_resetMode1 : (chip.withDuty cfg c d).resetMode1 = chip.resetMode1 := rfl

theorem edgeAddr_toNat_inj (hw : cfg.wf = true) {c c' : Channel} {x x' : Edge} :
    (edgeAddr cfg c x).toNat = (edgeAddr cfg c' x').toNat ↔ c = c' ∧ x = x' :=
  ⟨fun he => edgeAddr_injective hw (BitVec.eq_of_toNat_eq he), by rintro ⟨rfl, rfl⟩; rfl⟩

/-- The written channel's edge registers hold the four bytes (30_encoding.md R104). -/
theorem wrchRegs_written (hw : cfg.wf = true) (m : Memory) (x : Edge) :
    (wrchRegs cfg c d m).read (edgeAddr cfg c x).toNat = some (edgeData d x) := by
  cases x <;> simp [wrchRegs, edgeOrder, Memory.read_write, edgeAddr_toNat_inj hw]

/-- Every other channel's edge registers are as they were. -/
theorem wrchRegs_otherChannel (hw : cfg.wf = true) (m : Memory) {c' : Channel} (hc : c' ≠ c) (x : Edge) :
    (wrchRegs cfg c d m).read (edgeAddr cfg c' x).toNat = m.read (edgeAddr cfg c' x).toNat :=
  wrchRegs_other cfg c d m _ fun _ he => hc ((edgeAddr_toNat_inj hw).1 he).1

/-- The registers outside the channels' block are as they were. -/
theorem wrchRegs_outside (hw : cfg.wf = true) (m : Memory) {a : Nat} (ha : a < 6 ∨ 253 < a) :
    (wrchRegs cfg c d m).read a = m.read a :=
  wrchRegs_other cfg c d m a fun x he => by
    have := edgeAddr_range hw c x
    omega

/-- The four writes leave a chip configured as it was: MODE1, MODE2 and PRESCALE are no edge registers. -/
theorem withDuty_configured (hw : cfg.wf = true) :
    (chip.withDuty cfg c d).configured cfg = chip.configured cfg := by
  simp [Chip.configured, wrchRegs_outside hw]

theorem withDuty_load (hw : cfg.wf = true) (x : Edge) :
    (chip.withDuty cfg c d).load cfg (edgeAddr cfg c x) = edgeData d x :=
  load_written (wrchRegs_written hw chip.regs x)

/-- The high nibble and the low byte of a count make it up. -/
theorem duty_halves (d : Duty) : (d.extractLsb' 8 4 ++ d.extractLsb' 0 8 : Duty) = d :=
  (BitVec.extractLsb'_append_extractLsb'_eq_extractLsb' rfl).trans BitVec.extractLsb'_eq_self

/-- The data byte of OFF_H leaves the status bit and the reserved bits clear (30_encoding.md R104, R108). -/
theorem offHighByte_status (hi : BitVec 4) : (offHighByte hi).getLsbD 4 = false := by
  revert hi; decide

theorem offHighByte_reserved (hi : BitVec 4) : (offHighByte hi).extractLsb' 5 3 = 0#3 := by
  revert hi; decide

/-- The view of the four bytes of a count: ON 0, OFF the count, the status and reserved bits clear
(30_encoding.md R104, R108). -/
theorem channelView_edgeData (d : Duty) :
    channelView (edgeData d .onL) (edgeData d .onH) (edgeData d .offL) (edgeData d .offH) =
      ⟨0, d, false, false, 0, 0⟩ := by
  simp only [channelView, edgeData, offHighByte_low, offHighByte_status, offHighByte_reserved, duty_halves]
  rfl

/-- The output of a configured chip whose edge registers of the channel all hold a byte (20_memory.md R84):
a pulse where the view is that of a count other than 0. -/
theorem output_of_duty (hr : chip.resetMode1 = false) (hc : chip.configured cfg = true)
    (hx : ∀ x, chip.regs.read (edgeAddr cfg c x).toNat = some (edgeData d x)) :
    chip.output cfg c = if d = 0 then .noValue else .pulse d.toNat := by
  simp [Chip.output, hr, hc, hx, channelView_edgeData, ite_not]

/-- A channel's output rests on MODE1's, MODE2's and PRESCALE's state and its own four registers. -/
theorem output_congr {chip' : Chip} (hr : chip'.resetMode1 = chip.resetMode1)
    (hc : chip'.configured cfg = chip.configured cfg)
    (hx : ∀ x, chip'.regs.read (edgeAddr cfg c x).toNat = chip.regs.read (edgeAddr cfg c x).toNat) :
    chip'.output cfg c = chip.output cfg c := by
  simp only [Chip.output, hr, hc, hx]

end channel

/-- Settles O33: the four registers hold the count's bytes, whose view is the count; nothing else that an
output rests on is touched. -/
theorem writtenChannelDrivesItsDuty : Obligations.WrittenChannelDrivesItsDuty := by
  intro cfg chip c d hw after
  have hload : ∀ x, after.load cfg (edgeAddr cfg c x) = edgeData d x := withDuty_load hw
  have hconf : after.configured cfg = chip.configured cfg := withDuty_configured hw
  refine ⟨hload, ?_, fun hr hc => ⟨?_, fun c' hne => ?_⟩⟩
  · simp only [hload, channelView_edgeData]
  · exact output_of_duty hr (hconf.trans hc) (wrchRegs_written hw chip.regs)
  · exact output_congr rfl hconf (wrchRegs_otherChannel hw chip.regs hne)

end Sys2Proof.Machine
end

section
/-! The statements about 30_encoding.md: a frame decodes to a row exactly where it is the row's encoding, so the
decoder and the encoder undo each other (R104 to R107, R110), and what a step does with an issued word (R109,
R112). -/
namespace Sys2Proof.Machine

/-! ### The register map, read backwards -/

/-- The address of each register the block accesses (30_encoding.md R105); the others have none here, since no
frame of the block carries theirs (10_state.md R37). -/
def accessedAddr (cfg : Config) : RegName → Option Byte
  | .mode1 => some regMode1
  | .mode2 => some regMode2
  | .prescale => some regPrescale
  | .edge c x => some (edgeAddr cfg c x)
  | _ => none

section map
variable {cfg : Config} {r : Byte} {x : Edge}

theorem edgeOffsetOf_of_edgeAtOffset {o : EdgeOffsets} {k : BitVec 2} (h : edgeAtOffset o k = some x) :
    edgeOffsetOf o x = k := by
  unfold edgeAtOffset at h
  split_ifs at h with honL honH hoffL hoffH <;> cases h
  exacts [honL, honH, hoffL, hoffH]

/-- An address inside the channels' block is that of the channel and the offset it is taken apart into
(20_memory.md R67). -/
theorem eq_edgeAddr_of_offset (hin : cfg.chBase.toNat ≤ r.toNat ∧ r.toNat ≤ cfg.chBase.toNat + 63)
    (hx : edgeOffsetOf cfg.edgeOffset x = BitVec.ofNat 2 ((r.toNat - cfg.chBase.toNat) % 4)) :
    r = edgeAddr cfg (Fin.ofNat 16 ((r.toNat - cfg.chBase.toNat) / 4)) x := by
  have hr := r.isLt
  apply BitVec.eq_of_toNat_eq
  simp only [edgeAddr, hx, BitVec.toNat_ofNat, Fin.val_ofNat]
  omega

/-- Only one address names each register the block accesses (30_encoding.md R107), whatever CFG. -/
theorem eq_of_accessedAddr_decodeReg {a : Byte} (h : accessedAddr cfg (decodeReg cfg r) = some a) :
    r = a := by
  unfold decodeReg at h
  split_ifs at h with hmode1 hmode2 hsub1 hsub2 hsub3 hall hedge hpre htest
  · exact hmode1.trans (Option.some.inj h)
  · exact hmode2.trans (Option.some.inj h)
  -- SUBADR1 to SUBADR3 and ALLCALLADR, which the block never accesses
  iterate 4 cases h
  · cases hx : edgeAtOffset cfg.edgeOffset (BitVec.ofNat 2 ((r.toNat - cfg.chBase.toNat) % 4)) with
    | some x =>
      simp only [hx] at h
      exact (eq_edgeAddr_of_offset hedge (edgeOffsetOf_of_edgeAtOffset hx)).trans (Option.some.inj h)
    | none =>
      simp only [hx] at h
      cases h
  · exact hpre.trans (Option.some.inj h)
  all_goals cases h

end map

/-! ### The data bytes of the edge registers -/

section data
variable {i : Instr} {v : Byte} {c : Channel} {x : Edge}

/-- Every count's data byte is taken for that count (30_encoding.md R104). -/
theorem wrEdge_edgeData (c : Channel) (x : Edge) (d : Duty) :
    wrEdge c x (edgeData d x) = .ok (edgeWriteInstr c x d) := by
  cases x with
  | onL => rfl
  | onH => rfl
  | offL => rfl
  | offH => simp only [wrEdge, edgeData, offHighByte_high, offHighByte_low, edgeWriteInstr, if_true]

/-- A byte whose high four bits are 0 is the data byte of its low four (30_encoding.md R104). -/
theorem offHighByte_of_high (h : v.extractLsb' 4 4 = 0#4) : offHighByte (v.extractLsb' 0 4) = v := by
  rw [offHighByte, ← h]
  exact (BitVec.extractLsb'_append_extractLsb'_eq_extractLsb' rfl).trans BitVec.extractLsb'_eq_self

/-- A byte that an edge register's write accepts is the data byte of some count, and the instruction is that
count's row (30_encoding.md R104). -/
theorem exists_duty_of_wrEdge (h : wrEdge c x v = .ok i) :
    ∃ d, i = edgeWriteInstr c x d ∧ v = edgeData d x := by
  cases x <;> simp only [wrEdge] at h
  case onL =>
    split_ifs at h with hv
    exact ⟨0, (Except.ok.inj h).symm, hv⟩
  case onH =>
    split_ifs at h with hv
    exact ⟨0, (Except.ok.inj h).symm, hv⟩
  case offL =>
    refine ⟨0#4 ++ v, (Except.ok.inj h).symm.trans ?_, (duty_low v).symm⟩
    exact congrArg (wrOffL c) (duty_low v).symm
  case offH =>
    split_ifs at h with hv
    have hd := duty_high (v.extractLsb' 0 4)
    refine ⟨v.extractLsb' 0 4 ++ 0#8, (Except.ok.inj h).symm.trans (congrArg (wrOffH c) hd.symm), ?_⟩
    exact (offHighByte_of_high hv).symm.trans (congrArg offHighByte hd.symm)

end data

/-- Settles O4: the bytes are `edgeData`'s equations, and the two halves make up the count. -/
theorem edgeDataBytesCarryTheCount : Obligations.EdgeDataBytesCarryTheCount := fun d =>
  ⟨rfl, rfl, rfl, rfl, by rw [edgeData, edgeData, offHighByte_low, duty_halves]⟩

/-! ### The rows and their words -/

section rows
variable {cfg : Config} {i : Instr} {r v : Byte}

/-- A WR row is encoded as the write of its byte to its register (30_encoding.md R101, R106). -/
theorem encode_writeRow (hr : WriteRow cfg i r v) : encode cfg i = writeWord cfg r v := by
  cases hr with
  | prescale p => rfl
  | mode1Wake => rfl
  | mode1Run => rfl
  | mode2 => rfl
  | edge c x d => fin_cases c <;> cases x <;> rfl

/-- An RD row is encoded as the address-set phase of its register's read (30_encoding.md R102, R106). -/
theorem encode_readRow (hr : ReadRow cfg i r) : encode cfg i = readWord cfg r := by
  cases hr with
  | mode1 => rfl
  | mode2 => rfl
  | prescale => rfl
  | edge c x => fin_cases c <;> cases x <;> rfl

/-- The write of a row's byte to its register decodes to the row, that of MODE1's second byte where the two
differ (30_encoding.md R106, log 28). -/
theorem decodeWrite_writeRow (hw : cfg.wf = true) (hi : i.wellFormed cfg = true) (hr : WriteRow cfg i r v) :
    decodeWrite cfg r v = .ok i := by
  cases hr with
  | prescale => exact decodeWrite_prescale hw v
  | mode1Wake => exact decodeWrite_mode1_wake cfg
  | mode1Run => exact decodeWrite_mode1_run (by simpa [Instr.wellFormed] using hi)
  | mode2 => exact decodeWrite_mode2_init cfg
  | edge c x d => exact (decodeWrite_edge hw c x _).trans (wrEdge_edgeData c x d)

theorem decodeRead_readRow (hw : cfg.wf = true) (hr : ReadRow cfg i r) : decodeRead cfg r = .ok i := by
  cases hr with
  | mode1 => rfl
  | mode2 => rfl
  | prescale => exact decodeRead_prescale hw
  | edge c x => exact decodeRead_edge hw c x

/-- Every write that decodes is a WR row's (30_encoding.md R106). -/
theorem writeRow_of_decodeWrite (h : decodeWrite cfg r v = .ok i) : WriteRow cfg i r v := by
  have addr {a : Byte} : accessedAddr cfg (decodeReg cfg r) = some a → r = a :=
    eq_of_accessedAddr_decodeReg
  unfold decodeWrite at h
  cases hn : decodeReg cfg r <;> rw [hn] at addr h <;> dsimp only at h
  case mode1 =>
    obtain rfl := addr rfl
    split_ifs at h with hwake hrun <;> cases h
    · exact hwake ▸ .mode1Wake
    · exact hrun ▸ .mode1Run
  case mode2 =>
    obtain rfl := addr rfl
    split_ifs at h with hinit
    cases h
    exact hinit ▸ .mode2
  case prescale =>
    obtain rfl := addr rfl
    cases h
    exact .prescale v
  case edge c x =>
    obtain rfl := addr rfl
    obtain ⟨d, rfl, rfl⟩ := exists_duty_of_wrEdge h
    exact .edge c x d
  all_goals cases h

/-- Every read that decodes is an RD row's (30_encoding.md R106). -/
theorem readRow_of_decodeRead (h : decodeRead cfg r = .ok i) : ReadRow cfg i r := by
  have addr {a : Byte} : accessedAddr cfg (decodeReg cfg r) = some a → r = a :=
    eq_of_accessedAddr_decodeReg
  unfold decodeRead at h
  cases hn : decodeReg cfg r <;> rw [hn] at addr h <;> cases h
  case mode1 => exact addr rfl ▸ .mode1
  case mode2 => exact addr rfl ▸ .mode2
  case prescale => exact addr rfl ▸ .prescale
  case edge c x => exact addr rfl ▸ .edge c x

/-- Every frame that decodes is the encoding of its row, SWRST's broadcast included (30_encoding.md R107). -/
theorem encode_of_decodeFrame {a : BusAddr} {bytes : List Byte} (h : decodeFrame cfg a bytes = .ok i) :
    encode cfg i = .frame a bytes := by
  unfold decodeFrame at h
  split_ifs at h with hreset hdev
  · obtain ⟨rfl, rfl⟩ := hreset
    cases h
    rfl
  · subst hdev
    split at h
    next r v => exact encode_writeRow (writeRow_of_decodeWrite h)
    next r => exact encode_readRow (readRow_of_decodeRead h)
    next => cases h

end rows

/-! ### The operation codes -/

/-- Every operation's code decodes to it (30_encoding.md R110). -/
theorem decode_encode_command (cfg : Config) {i : Instr} (hi : i ∈ commandInstrs) :
    decode cfg (encode cfg i) = .ok i := by
  fin_cases hi <;> rfl

/-- A code that decodes is its operation's (30_encoding.md R110). -/
theorem encode_of_decodeCmd (cfg : Config) {i : Instr} {code : Byte} (h : decodeCmd code = .ok i) :
    encode cfg i = .cmd code := by
  unfold decodeCmd at h
  split at h <;> cases h
  all_goals
    rename_i hcode
    exact congrArg PortWord.cmd (BitVec.eq_of_toNat_eq hcode.symm)

/-- The codes outside 0x01 to 0x0A are reserved (30_encoding.md R112). -/
theorem decodeCmd_reserved {code : Byte} (h : code.toNat = 0 ∨ 0xB ≤ code.toNat) :
    decodeCmd code = .error .reservedCommand := by
  unfold decodeCmd
  split
  case h_11 => rfl
  all_goals omega

/-- R112's reserved codes, by their two halves: the high one not 0, or the low one 0 or above 0xA. -/
theorem reserved_of_halves {code : Byte}
    (h : code.extractLsb' 4 4 ≠ 0#4 ∨ code.extractLsb' 0 4 = 0#4 ∨ 0xB ≤ (code.extractLsb' 0 4).toNat) :
    code.toNat = 0 ∨ 0xB ≤ code.toNat := by
  have hlt := code.isLt
  have hhigh : (code.extractLsb' 4 4).toNat = code.toNat / 16 := by
    rw [BitVec.extractLsb'_toNat, Nat.shiftRight_eq_div_pow]
    omega
  have hlow : (code.extractLsb' 0 4).toNat = code.toNat % 16 := by
    rw [BitVec.extractLsb'_toNat, Nat.shiftRight_zero]
  simp only [ne_eq, ← BitVec.toNat_inj, hhigh, hlow, BitVec.toNat_ofNat] at h
  omega

/-! ### The decoder and the encoder -/

/-- Settles O1, by the group of the instruction: SWRST, a WR row, an RD row or an operation. -/
theorem decodeEncodeAgree : Obligations.DecodeEncodeAgree := by
  intro cfg i hw hi
  rcases instr_groups cfg i with rfl | ⟨r, v, hr⟩ | ⟨r, hr⟩ | hc
  · exact decodeFrame_swrst cfg
  · rw [encode_writeRow hr, decode_writeWord hw, decodeWrite_writeRow hw hi hr]
  · rw [encode_readRow hr, decode_readWord hw, decodeRead_readRow hw hr]
  · exact decode_encode_command cfg hc

/-- Settles O2: a command and a frame each decode to what they encode. -/
theorem decodedWordIsItsEncoding : Obligations.DecodedWordIsItsEncoding := by
  intro cfg w i h
  cases w with
  | cmd code => exact encode_of_decodeCmd cfg h
  | frame a bytes => exact encode_of_decodeFrame h

/-! ### The issue of a word -/

section issue
variable {s : State} {t : Bool} {rest : List Input} {w : PortWord}

theorem takeInput_of_inbox {a : PortAction} (h : s.inbox = ⟨t, a⟩ :: rest) :
    takeInput s = { s with term := s.term || t, inbox := rest } := by
  rw [takeInput_eq, h]
  rfl

/-- Where the port accepts operations, the turn is the issue of the word (30_encoding.md R109). -/
theorem arbitrate_issue (hport : portAccepts s = true) (hin : s.inbox = ⟨t, .issue w⟩ :: rest) :
    arbitrate (nextAction s) (takeInput s) = issueWord w (takeInput s) := by
  rw [nextAction_of_inbox hin, arbitrate_of_accepts (by exact hport), acceptAction]

/-- A step whose turn is to run an instruction is `exec` of it. -/
theorem step_of_run {i : Instr} {u : State} (hw : s.cfg.wf = true)
    (h : arbitrate (nextAction s) (takeInput s) = .run i u) : step s = exec i u := by
  simp [step, hw, h]

theorem issueWord_of_decode {i : Instr} (h : decode s.cfg w = .ok i) :
    issueWord w s = .run i (noteCommand w s) := by
  simp [issueWord, h]

/-- A reserved command stands in CMD and sets ERR (30_encoding.md R112). -/
theorem issueWord_reserved {code : Byte} (h : decodeCmd code = .error .reservedCommand) :
    issueWord (.cmd code) s = .settle { s with cmd := code, err := ⟨4, 0xFFFF⟩ } := by
  simp only [issueWord, decode, h]
  rfl

/-- WRCH with a count of more than 12 bits is refused before the handle is looked at (30_encoding.md R112,
log 18). -/
theorem execWrch_of_reservedDuty (h : s.argDuty.extractLsb' 12 4 ≠ 0#4) :
    execWrch s = .next { s with err := ⟨4, 0xFFFF⟩ } := by
  rw [execWrch, if_pos h]
  rfl

/-- RUN in the fourth mode is refused (30_encoding.md R112). -/
theorem execRun_of_reservedMode (h : s.argMode = 3) :
    execRun s = .next { s with err := ⟨4, 0xFFFF⟩ } := by
  have hmode : s.argMode.toNat = 3 := by rw [h]; rfl
  rw [execRun, hmode]
  rfl

end issue

/-- Settles O8: the port accepts the word, whose turn is to run what it decodes to. -/
theorem stepRunsDecodedInstruction : Obligations.StepRunsDecodedInstruction := by
  intro s i w t rest hw hin hport hd
  rw [← takeInput_of_inbox hin]
  exact step_of_run hw ((arbitrate_issue hport hin).trans (issueWord_of_decode hd))

/-- Settles O13: a reserved code does not decode, and WRCH and RUN look at their operand first. -/
theorem reservedCommandsRefused : Obligations.ReservedCommandsRefused := by
  refine ⟨fun s code t rest hw hport hin hcode => ?_, fun s h => execWrch_of_reservedDuty h,
    fun s h => execRun_of_reservedMode h⟩
  have hreserved := decodeCmd_reserved (reserved_of_halves hcode)
  exact step_of_settle hw ((arbitrate_issue hport hin).trans (issueWord_reserved hreserved))

end Sys2Proof.Machine
end

section
/-! The handle and PRESC (40_register_protocol.md R140, R141, R150): what is refused without a handle, the
prescale of a frequency, and which instruction may write the handle and the phase. -/
namespace Sys2Proof.Machine

/-! ### What is refused without a handle -/

section refused
variable {s : State}

/-- An operation that needs the bus, with no handle: ERR only (40_register_protocol.md R140(d)). -/
theorem needHandle_refused {a : Act} (hh : s.handle = none) :
    (needHandle a (clearErr s)).outcome = .next { s with err := ⟨1, 0x0300⟩ } := by
  rw [needHandle_none a (clearErr s) hh]
  rfl

/-- A frame by itself, with no handle: ERR only (log 15). -/
theorem issueFrame_refused {a : Act} (hh : s.handle = none) :
    issueFrame a s = .next { s with err := ⟨1, 0x0300⟩ } := by
  rw [issueFrame_none hh]
  rfl

/-- WRCH with a count of 12 bits is an operation that needs the bus (30_encoding.md R112, log 18). -/
theorem execWrch_of_duty (hd : s.argDuty.extractLsb' 12 4 = 0#4) :
    execWrch s = (needHandle (wrchOp s.argCh (s.argDuty.extractLsb' 0 12)) (clearErr s)).outcome :=
  if_neg (not_not_intro hd)

theorem exec_opCal (s : State) : exec .opCal s = (calOp (clearErr s)).outcome := rfl

/-- CAL needs the bus where the handshake is still to be made (42_motor_calibration.md R202). -/
theorem calOp_refused (hh : s.handle = none) (hm : s.mcs ≠ .done) (hr : s.cfg.requiresHandshake = true) :
    calOp s = refuseNoHandle s := by
  simp [calOp, hm, hr, hh]

end refused

/-- Settles O21: a frame and an operation each look at the handle first; CAL where it comes to the handshake. -/
theorem busNeedsAnOpenHandle : Obligations.BusNeedsAnOpenHandle := by
  intro s i hh hi
  rcases hi with rfl | ⟨r, v, hr⟩ | ⟨r, hr⟩ | rfl | rfl | rfl | ⟨rfl, hd⟩ | ⟨rfl, hm, hreq⟩
  · exact issueFrame_refused hh
  · rw [exec_writeRow hr, issueFrame_refused hh]
  · rw [exec_readRow hr, issueFrame_refused hh]
  · exact needHandle_refused hh
  · exact needHandle_refused hh
  · exact needHandle_refused hh
  · exact (execWrch_of_duty hd).trans (needHandle_refused hh)
  · rw [exec_opCal, calOp_refused (s := clearErr s) hh hm hreq]
    rfl

/-! ### PRESC -/

section presc
variable {s : State} {f : Nat}

/-- The rounded quotient is the integer for which the doubled quotient lies in the half-open interval around it
(00_scope.md R10). -/
theorem roundQuot_bounds (num : Nat) {den : Nat} (hden : 0 < den) :
    2 * (den * roundQuot num den) ≤ 2 * num + den ∧
      2 * num + den < 2 * (den * roundQuot num den) + 2 * den := by
  have hdiv := Nat.div_add_mod (2 * num + den) (2 * den)
  have hmod := Nat.mod_lt (2 * num + den) (show 0 < 2 * den by omega)
  rw [Nat.mul_assoc] at hdiv
  rw [roundQuot]
  omega

/-- The quotient for `f` hertz: 25 000 000 / (4096 f) is never half an odd integer, as 2^12 does not divide
50 000 000. -/
theorem prescaleQuot_bounds (hf : 0 < f) :
    8192 * (f * roundQuot oscHz (pwmCounts * f)) < 50000000 + 4096 * f ∧
      50000000 + 4096 * f < 8192 * (f * roundQuot oscHz (pwmCounts * f)) + 8192 * f := by
  have h := roundQuot_bounds oscHz (Nat.mul_pos (show 0 < pwmCounts by decide) hf)
  rw [Nat.mul_assoc] at h
  simp only [oscHz, pwmCounts] at h ⊢
  omega

/-- The rounded quotient fits the register for exactly 24 to 12207 Hz (40_register_protocol.md R141). -/
theorem prescaleQuot_range (hf : 0 < f) :
    (1 ≤ roundQuot oscHz (pwmCounts * f) ∧ roundQuot oscHz (pwmCounts * f) ≤ 256) ↔
      24 ≤ f ∧ f ≤ 12207 := by
  obtain ⟨hlo, hhi⟩ := prescaleQuot_bounds hf
  generalize roundQuot oscHz (pwmCounts * f) = q at hlo hhi ⊢
  constructor
  · rintro ⟨h1, h256⟩
    have := Nat.mul_le_mul_left f h1
    have := Nat.mul_le_mul_left f h256
    omega
  · rintro ⟨h24, h12207⟩
    constructor
    · by_contra h0
      obtain rfl : q = 0 := by omega
      omega
    · by_contra h257
      have := Nat.mul_le_mul_left f (show 257 ≤ q by omega)
      omega

/-- PRESC gives the rounded quotient less 1 inside its range, and nothing outside it (40_register_protocol.md
R141). -/
theorem prescaleOf_of_range (h : 24 ≤ f ∧ f ≤ 12207) :
    prescaleOf f = some (BitVec.ofNat 8 (roundQuot oscHz (pwmCounts * f) - 1)) := by
  have hf : 0 < f := by omega
  rw [prescaleOf, if_neg hf.ne']
  exact if_pos ((prescaleQuot_range hf).2 h)

theorem prescaleOf_of_outside (h : f < 24 ∨ 12207 < f) : prescaleOf f = none := by
  rw [prescaleOf]
  split
  · rfl
  · refine if_neg fun hq => ?_
    have := (prescaleQuot_range (by omega)).1 hq
    omega

/-- The prescale is the integer nearest to 25 000 000 / (4096 f), less 1 (40_register_protocol.md R141). -/
theorem prescale_nearest (h : 24 ≤ f ∧ f ≤ 12207) :
    |(25000000 : ℚ) / (4096 * f) -
      ((BitVec.ofNat 8 (roundQuot oscHz (pwmCounts * f) - 1)).toNat + 1)| < 1 / 2 := by
  have hf : 0 < f := by omega
  obtain ⟨hlo, hhi⟩ := prescaleQuot_bounds hf
  have hq := (prescaleQuot_range hf).2 h
  generalize roundQuot oscHz (pwmCounts * f) = q at hlo hhi hq ⊢
  have hbyte : (BitVec.ofNat 8 (q - 1)).toNat + 1 = q := by
    rw [BitVec.toNat_ofNat]
    omega
  have hden : (0 : ℚ) < 4096 * f := by positivity
  have hbyteQ : ((BitVec.ofNat 8 (q - 1)).toNat : ℚ) + 1 = q := by exact_mod_cast hbyte
  have hloQ : (8192 * (f * q) : ℚ) < 50000000 + 4096 * f := by exact_mod_cast hlo
  have hhiQ : (50000000 + 4096 * f : ℚ) < 8192 * (f * q) + 8192 * f := by exact_mod_cast hhi
  rw [hbyteQ, abs_sub_lt_iff, sub_lt_iff_lt_add, sub_lt_comm, div_lt_iff₀ hden, lt_div_iff₀ hden]
  constructor <;> linarith

theorem execPresc_of_some {p : Byte} (h : prescaleOf s.argFreq.toNat = some p) :
    execPresc s = .next { s with err := ⟨0, 0⟩, resPresc := p, resPrescWritten := true } := by
  rw [execPresc, prescOp, h]
  rfl

theorem execPresc_of_none (h : prescaleOf s.argFreq.toNat = none) :
    execPresc s = .next { s with err := ⟨4, 0x0200⟩ } := by
  rw [execPresc, prescOp, h]
  rfl

end presc

/-- Settles O22: the rounding's interval, doubled and multiplied out, gives both the range and the distance. -/
theorem prescComputesThePrescale : Obligations.PrescComputesThePrescale := fun _ =>
  ⟨fun h => ⟨_, prescale_nearest h, execPresc_of_some (prescaleOf_of_range h)⟩,
    fun h => execPresc_of_none (prescaleOf_of_outside h)⟩

/-! ### What writes the handle and the phase -/

/-- CAL ends in the phase it was entered from, with RUN's mark and the handle as they were
(42_motor_calibration.md R202). -/
theorem calOp_keeps_control (x : Phase × Bool × Option Handle) :
    Act.Keeps (fun s => control s = x) calOp := by
  intro s hx
  have hP : Closed CalUpdate fun t => (t.runActive, t.handle) = (s.runActive, s.handle) :=
    Closed.view (fun t => (t.runActive, t.handle)) _ fun _ _ h => by rw [h.frame]
  have fin : ∀ t : State, (t.runActive, t.handle) = (s.runActive, s.handle) ∧
      t.seq.phase = s.seq.phase ∧ (McsSettled s → McsSettled t) → control t = x := by
    rintro t ⟨hpair, hphase, -⟩
    rw [← hx, control, control, hphase, hpair]
  exact holds_mono (hP.keeps_calOp rfl) (fun _ => fin) (fun _ => fin)

/-- OPEN writes the handle, but neither the phase nor RUN's mark (40_register_protocol.md R142). -/
theorem exec_opOpen_phase {s t : State} (he : exec .opOpen s = .next t) :
    t.seq.phase = s.seq.phase ∧ t.runActive = s.runActive := by
  have hP : Closed OpenUpdate fun u => u.seq.phase = s.seq.phase ∧ u.runActive = s.runActive :=
    (Closed.view (fun u => u.seq.phase) _ fun _ _ h => by rw [h.frame]).and
      (Closed.view State.runActive _ fun _ _ h => by rw [h.frame])
  exact outcome_next_holds he (holds_mono (hP.keeps_openOp (s := clearErr s) ⟨rfl, rfl⟩)
    (fun _ _ h => h.1) fun _ _ h => h.1)

/-- A tick on an open handle that does not see TERM is its body (43_control_loop.md R232, R233). -/
theorem exec_opTick_open {s : State} {h : Handle} (hh : s.handle = some h) (hterm : s.term = false) :
    exec .opTick s = (tickBody (clearErr s)).outcome := by
  change (tickOp (clearErr s)).outcome = _
  rw [tickOp, needHandle_some _ (clearErr s) h hh, if_neg (by simp [hterm])]

/-- A tick that does not see TERM leaves the phase, RUN's mark and the handle alone (43_control_loop.md
R233). -/
theorem exec_opTick_control {s t : State} (he : exec .opTick s = .next t) (hterm : s.term = false) :
    control t = control s := by
  have hP : Closed TickUpdate fun u => control u = control s :=
    Closed.view control _ fun _ _ h => by rw [h.frame]; rfl
  cases hh : s.handle with
  | none =>
    obtain rfl : _ = t := Host.Outcome.next.inj ((needHandle_refused hh).symm.trans he)
    rfl
  | some h =>
    rw [exec_opTick_open hh hterm] at he
    exact (hP.keeps_tickBody (calOp_keeps_control _)).outcome (s := clearErr s) rfl he

/-- Outside OPEN, SHUTDOWN, RUN and a tick that sees TERM, no instruction writes the phase, RUN's mark or the
handle (40_register_protocol.md R150). -/
theorem exec_keeps_control {i : Instr} {s t : State} (he : exec i s = .next t) (hopen : i ≠ .opOpen)
    (hshut : i ≠ .opShutdown) (hrun : i ≠ .opRun) (hterm : i = .opTick → s.term = false) :
    control t = control s := by
  have hbus : Closed BusUpdate fun u => control u = control s :=
    Closed.view control _ fun _ _ h => by rw [h.busOnly]; rfl
  rcases onlyTransfers_or i with hi | rfl | rfl | rfl | rfl | rfl | rfl | rfl | rfl
  · exact hbus.keeps_transfers hi rfl he
  · exact absurd rfl hopen
  · rcases hbus.rdall_next rfl he with ⟨u, bytes, hu, -, -, rfl⟩ | ht
    · exact hu
    · exact ht
  · rcases exec_opPresc_next he with ⟨p, rfl⟩ | ⟨k, n, rfl⟩ <;> rfl
  · rcases exec_opMap_next he with ⟨d, rfl⟩ | ⟨k, n, rfl⟩ <;> rfl
  · exact (calOp_keeps_control _).outcome (s := clearErr s) rfl he
  · exact exec_opTick_control he (hterm rfl)
  · exact absurd rfl hrun
  · exact absurd rfl hshut

/-- Settles O57: OPEN by its updates, which hold the handle but neither the phase nor RUN's mark; every other
instruction leaves all three alone. -/
theorem onlyRunAndShutdownChangePhase : Obligations.OnlyRunAndShutdownChangePhase := by
  intro i s t he hshut hrun hterm
  by_cases hopen : i = .opOpen
  · subst hopen
    obtain ⟨hphase, hact⟩ := exec_opOpen_phase he
    exact ⟨hphase, hact, fun h => absurd rfl h⟩
  · have h := exec_keeps_control he hopen hshut hrun hterm
    simp only [control, Prod.mk.injEq] at h
    obtain ⟨hphase, hact, hhandle⟩ := h
    exact ⟨hphase, hact, fun _ => hhandle⟩

end Sys2Proof.Machine
end

section
/-! Register writes and register reads one after another, with each answer of the bus: RESET, WRCH and RDALL
(40_register_protocol.md R143 to R145). -/
namespace Sys2Proof.Machine

/-- The bus fails after `m + k` transfers: `m` good ones, and it fails `k` transfers after them. -/
theorem busFailsAt_add {e : Env} (m k n : Nat) :
    e.busFailsAt (m + k) n = true ↔ e.busOkFor m = true ∧ (e.dropBus m).busFailsAt k n = true := by
  simp only [Env.busFailsAt, Bool.and_eq_true, busOkFor_add, dropBus_bus, drop_drop, and_assoc]

/-! ### RESET -/

/-- Settles O29: RESET on an open handle is the reset sequence. -/
theorem resetSendsTheBroadcast : Obligations.ResetSendsTheBroadcast := by
  intro s h n _ hh
  have hexec : exec .opReset s = (resetOp (clearErr s)).outcome :=
    congrArg Res.outcome (needHandle_some resetOp (clearErr s) h hh)
  rw [hexec]
  constructor
  · intro hb
    rw [resetOp_ok (s := clearErr s) (busOkFor_one.1 hb)]
    rfl
  · intro hb
    rw [resetOp_fail (s := clearErr s) (busFailsAt_zero.1 hb)]
    rfl

/-! ### Register writes one after another -/

/-- The REGWRs of a list of registers with their bytes. -/
def regWrites (ws : List (Byte × Byte)) : List Act := ws.map fun w => regWrite w.1 w.2

/-- Their frames in TR, each answered `ok`. -/
def writeEvents (cfg : Config) (ws : List (Byte × Byte)) : List Event :=
  ws.map fun w => regwrEvent cfg w.1 w.2 true

/-- The chip with these bytes written, in this order. -/
def Chip.withRegs (chip : Chip) (ws : List (Byte × Byte)) : Chip :=
  ws.foldl (fun chip w => chip.withReg w.1 w.2) chip

/-- The chip takes these writes in this order: PRESCALE only in low-power mode (70_reset_and_hazards.md
R322). -/
def Chip.Takes (cfg : Config) : Chip → List (Byte × Byte) → Prop
  | _, [] => True
  | chip, w :: rest =>
    (w.1 = regPrescale → chip.lowPower cfg = some true) ∧ Chip.Takes cfg (chip.withReg w.1 w.2) rest

section writes
variable {cfg : Config} {chip : Chip} {ws : List (Byte × Byte)} {w : Byte × Byte}

@[simp] theorem withRegs_nil : chip.withRegs [] = chip := rfl
@[simp] theorem withRegs_cons : chip.withRegs (w :: ws) = (chip.withReg w.1 w.2).withRegs ws := rfl

theorem withRegs_append (ws ws' : List (Byte × Byte)) :
    chip.withRegs (ws ++ ws') = (chip.withRegs ws).withRegs ws' :=
  List.foldl_append

/-- What a list of writes leaves, field by field: MODE1 is as SWRST left it where none of them was of MODE1. -/
theorem withRegs_eq (ws : List (Byte × Byte)) (chip : Chip) : chip.withRegs ws = {
    regs := ws.foldl (fun m w => m.write w.1.toNat w.2) chip.regs
    resetMode1 := chip.resetMode1 && ws.all fun w => w.1 != regMode1
    resets := chip.resets } := by
  induction ws generalizing chip with
  | nil => simp
  | cons w rest ih =>
    rw [withRegs_cons, ih]
    by_cases hr : w.1 = regMode1
    · simp [hr]
    · have hne : (w.1 != regMode1) = true := bne_iff_ne.2 hr
      simp only [withReg_regs, withReg_resetMode1, withReg_resets, List.foldl_cons, List.all_cons, if_neg hr, hne,
        Bool.true_and]

/-- Every chip takes writes none of which is of PRESCALE. -/
theorem takes_of_ne_prescale (h : ∀ w ∈ ws, w.1 ≠ regPrescale) : chip.Takes cfg ws := by
  induction ws generalizing chip with
  | nil => trivial
  | cons w rest ih =>
    exact ⟨fun hp => absurd hp (h w List.mem_cons_self), ih fun v hv => h v (List.mem_cons_of_mem w hv)⟩

theorem runSteps_regWrites_cons (w : Byte × Byte) (ws : List (Byte × Byte)) (s : State) :
    runSteps (regWrites (w :: ws)) s = (regWrite w.1 w.2 s).andThen fun _ t => runSteps (regWrites ws) t := rfl

/-- Writes that are all answered `ok`: one frame each, and every byte in its register (20_memory.md R64). -/
theorem regWrites_ok {s : State} (hw : s.cfg.wf = true) (ht : s.chip.Takes s.cfg ws)
    (hb : s.env.busOkFor ws.length = true) :
    runSteps (regWrites ws) s = .done () { s with
      env := s.env.dropBus ws.length
      tr := s.tr ++ writeEvents s.cfg ws
      chip := s.chip.withRegs ws } := by
  induction ws generalizing s with
  | nil => simp [regWrites, writeEvents]
  | cons w rest ih =>
    obtain ⟨hl, hrest⟩ := ht
    obtain ⟨hb1, hb2⟩ := (busOkFor_succ rest.length).1 hb
    rw [runSteps_regWrites_cons, regWrite_taken hw hl hb1, andThen_done]
    refine (ih (by exact hw) (by exact hrest) (by exact hb2)).trans ?_
    simp [writeEvents, Nat.add_comm]

/-- Writes of which the `k`-th is answered `fail`: BusTransferError with its register, the frames before it and
its own in TR, none after it; its register is new only if both bytes had arrived (20_memory.md R62,
60_exceptions.md R272). -/
theorem regWrites_failed {s : State} {k n : Nat} (hw : s.cfg.wf = true) (ht : s.chip.Takes s.cfg ws)
    (hk : ws[k]? = some w) (hb : s.env.busFailsAt k n = true) :
    runSteps (regWrites ws) s = .raised ⟨.busTransfer, infoWord 0x00 w.1⟩ { s with
      err := ⟨1, infoWord 0x00 w.1⟩
      env := s.env.dropBus (k + 1)
      tr := s.tr ++ writeEvents s.cfg (ws.take k) ++ [regwrEvent s.cfg w.1 w.2 false]
      chip := s.chip.withRegs (ws.take (if 2 ≤ n then k + 1 else k)) } := by
  induction ws generalizing s k with
  | nil => simp at hk
  | cons v rest ih =>
    obtain ⟨hl, hrest⟩ := ht
    rw [runSteps_regWrites_cons]
    cases k with
    | zero =>
      obtain rfl : v = w := by simpa using hk
      rw [regWrite_failed hw hl (busFailsAt_zero.1 hb), andThen_raised]
      by_cases hn : 2 ≤ n <;> simp [writeEvents, hn]
    | succ k =>
      obtain ⟨hb1, hb2⟩ := (busFailsAt_add 1 k n).1 (Nat.add_comm k 1 ▸ hb)
      rw [regWrite_taken hw hl (busOkFor_one.1 hb1), andThen_done]
      refine (ih (by exact hw) (by exact hrest) (by simpa using hk) (by exact hb2)).trans ?_
      by_cases hn : 2 ≤ n <;> simp [writeEvents, hn, Nat.add_comm, Nat.add_left_comm]

end writes

/-! ### WRCH -/

/-- The write of an edge register for the duty count `d` (30_encoding.md R104). -/
def edgeWrite (cfg : Config) (c : Channel) (d : Duty) (x : Edge) : Byte × Byte :=
  (edgeAddr cfg c x, edgeData d x)

section wrch
variable {s : State} {h : Handle} {c : Channel} {d : Duty}

/-- WRCH's writes are those of the four edge registers in order (40_register_protocol.md R144). -/
theorem writeChannel_eq (c : Channel) (d : Duty) (s : State) :
    writeChannel c d s = runSteps (regWrites (edgeOrder.map (edgeWrite s.cfg c d))) s := rfl

/-- Every chip takes writes of edge registers: none of them is PRESCALE. -/
theorem takes_edgeWrites {cfg : Config} {chip : Chip} (hw : cfg.wf = true) (xs : List Edge) :
    chip.Takes cfg (xs.map (edgeWrite cfg c d)) := by
  refine takes_of_ne_prescale fun w hmem => ?_
  obtain ⟨x, -, rfl⟩ := List.mem_map.1 hmem
  exact edgeAddr_ne_prescale hw c x

/-- Writes of edge registers change the register memory alone: none of them is MODE1. -/
theorem withRegs_edgeWrites {cfg : Config} (hw : cfg.wf = true) (xs : List Edge) (chip : Chip) :
    chip.withRegs (xs.map (edgeWrite cfg c d)) = { chip with
      regs := xs.foldl (fun m x => m.write (edgeAddr cfg c x).toNat (edgeData d x)) chip.regs } := by
  have hall : (xs.map (edgeWrite cfg c d)).all (fun w => w.1 != regMode1) = true := by
    simp [edgeWrite, edgeAddr_ne_mode1 hw]
  rw [withRegs_eq, hall, Bool.and_true, List.foldl_map]
  rfl

/-- The four writes, each answered `ok` (40_register_protocol.md R144, R149). -/
theorem writeChannel_ok (hw : s.cfg.wf = true) (hb : s.env.busOkFor 4 = true) :
    writeChannel c d s = .done () { s with
      env := s.env.dropBus 4
      tr := s.tr ++ wrchEvents s.cfg c d
      chip := { s.chip with regs := wrchRegs s.cfg c d s.chip.regs } } :=
  edgeWrites_ok hw c d edgeOrder s rfl hb

/-- The four writes, of which the `k`-th is answered `fail` (70_reset_and_hazards.md R320). -/
theorem writeChannel_failed {k n : Nat} {x : Edge} (hw : s.cfg.wf = true) (hk : edgeOrder[k]? = some x)
    (hb : s.env.busFailsAt k n = true) :
    writeChannel c d s = .raised ⟨.busTransfer, infoWord 0x00 (edgeAddr s.cfg c x)⟩ { s with
      err := ⟨1, infoWord 0x00 (edgeAddr s.cfg c x)⟩
      env := s.env.dropBus (k + 1)
      tr := s.tr ++ (wrchEvents s.cfg c d).take k ++
        [regwrEvent s.cfg (edgeAddr s.cfg c x) (edgeData d x) false]
      chip := { s.chip with
        regs := (edgeOrder.take (if 2 ≤ n then k + 1 else k)).foldl
          (fun m y => m.write (edgeAddr s.cfg c y).toNat (edgeData d y)) s.chip.regs } } := by
  have hk' : (edgeOrder.map (edgeWrite s.cfg c d))[k]? = some (edgeWrite s.cfg c d x) := by
    rw [List.getElem?_map, hk]
    rfl
  rw [writeChannel_eq, regWrites_failed hw (takes_edgeWrites hw _) hk' hb, ← List.map_take, ← List.map_take,
    withRegs_edgeWrites hw, wrchEvents, ← List.map_take, writeEvents, List.map_map]
  rfl

/-- WRCH on an open handle with a legal count is its range check and its writes (40_register_protocol.md
R144). -/
theorem exec_opWrch_open (hh : s.handle = some h) (hd : s.argDuty.extractLsb' 12 4 = 0#4) :
    exec .opWrch s = (wrchOp s.argCh (s.argDuty.extractLsb' 0 12) (clearErr s)).outcome :=
  (execWrch_of_duty hd).trans (congrArg Res.outcome (needHandle_some _ (clearErr s) h hh))

/-- WRCH of a channel of the block is its four writes (40_register_protocol.md R144). -/
theorem wrchOp_of_channel {v : Byte} (hc : v.toNat = c.val) : wrchOp v d s = writeChannel c d s := by
  have hcv : (Fin.ofNat 16 c.val : Channel) = c := Fin.ext (Nat.mod_eq_of_lt c.isLt)
  rw [wrchOp, hc, if_neg (by omega), hcv]

/-- WRCH of a channel above 15 is refused before any I/O (60_exceptions.md R275). -/
theorem wrchOp_of_above {v : Byte} (hc : 15 < v.toNat) :
    wrchOp v d s = raiseErr .outOfRange (infoWord 0x00 v) s :=
  if_pos hc

end wrch

/-- Settles O32: the channel is looked at before the first write. -/
theorem wrchRejectsTheChannel : Obligations.WrchRejectsTheChannel := by
  intro s h hh hd hc
  rw [exec_opWrch_open hh hd, wrchOp_of_above hc]
  rfl

/-- Settles O30: the four writes answered `ok`; an address that is none of theirs is left alone. -/
theorem wrchWritesFourRegistersInOrder : Obligations.WrchWritesFourRegistersInOrder := by
  intro s h c hw hh hc hd hb d
  refine ⟨?_, wrchRegs_written hw _, wrchRegs_other s.cfg c d _⟩
  rw [exec_opWrch_open hh hd, wrchOp_of_channel hc, writeChannel_ok (s := clearErr s) hw hb]
  rfl

/-- Settles O31: the four writes, of which the `k`-th is answered `fail`. -/
theorem wrchStopsAtTheFailedWrite : Obligations.WrchStopsAtTheFailedWrite := by
  intro s h c k n x hw hh hc hd hk hb d done
  have hmade : (edgeOrder.take (if 2 ≤ n then k + 1 else k)).foldl
      (fun m y => m.write (edgeAddr s.cfg c y).toNat (edgeData d y)) s.chip.regs =
      if 2 ≤ n then done.write (edgeAddr s.cfg c x).toNat (edgeData d x) else done := by
    split
    · rw [List.take_add_one, hk, List.foldl_append]
      rfl
    · rfl
  rw [exec_opWrch_open hh hd, wrchOp_of_channel hc, writeChannel_failed (s := clearErr s) hw hk hb, ← hmade]
  rfl

/-! ### RDALL -/

/-- The state after these registers have been read, every transfer answered `ok` (40_register_protocol.md
R145). -/
def afterReads (rs : List Byte) (s : State) : State :=
  { s with
    env := s.env.dropBus (2 * rs.length)
    tr := s.tr ++ rs.flatMap fun r => regrdEvents s.cfg r (s.chip.load s.cfg r) }

/-- `t` differs from `s` at most in the answers of the bus, the trace and ERR: the chip is as it was. -/
def ReadsOnly (s t : State) : Prop :=
  t = { s with env := { s.env with bus := t.env.bus }, tr := t.tr, err := t.err }

/-- The error of a failed read of register `r`: phase 1 or 2 (60_exceptions.md R272). -/
def ReadError (r : Byte) (e : ErrReg) : Prop := e = ⟨1, infoWord 0x01 r⟩ ∨ e = ⟨1, infoWord 0x02 r⟩

section rdall
variable {s : State} {h : Handle} {rs : List Byte} {r : Byte}

theorem ReadsOnly.trans {t u : State} (h : ReadsOnly s t) (h' : ReadsOnly t u) : ReadsOnly s u := by
  unfold ReadsOnly at *
  rw [h', h]

theorem ReadsOnly.cfg {t : State} (h : ReadsOnly s t) : t.cfg = s.cfg := by rw [h]

/-- RDALL on an open handle (40_register_protocol.md R145). -/
theorem exec_opRdall_open (hh : s.handle = some h) :
    exec .opRdall s = (rdallOp (clearErr s)).outcome :=
  congrArg Res.outcome (needHandle_some rdallOp (clearErr s) h hh)

/-- Reads of one list after reads of another. -/
theorem readRegs_append (rs rs' : List Byte) (s : State) :
    readRegs (rs ++ rs') s = (readRegs rs s).andThen fun bs t =>
      (readRegs rs' t).andThen fun bs' u => .done (bs ++ bs') u := by
  induction rs generalizing s with
  | nil => cases h : readRegs rs' s <;> simp [readRegs, h]
  | cons r rest ih => simp [readRegs, ih, andThen_assoc]

/-- Reads of which the `k`-th raises after `k` good ones end there (40_register_protocol.md R145). -/
theorem readRegs_raised {k : Nat} {e : Raise} {t : State} (hw : s.cfg.wf = true) (hk : rs[k]? = some r)
    (hb : s.env.busOkFor (2 * k) = true) (hr : regRead r (afterReads (rs.take k) s) = .raised e t) :
    readRegs rs s = .raised e t := by
  obtain ⟨hlt, rfl⟩ := List.getElem?_eq_some_iff.1 hk
  have hlen : (rs.take k).length = k := List.length_take_of_le hlt.le
  have hpre : readRegs (rs.take k) s = .done ((rs.take k).map (s.chip.load s.cfg)) (afterReads (rs.take k) s) :=
    readRegs_ok _ s hw (by rw [hlen]; exact hb)
  rw [← List.take_append_drop k rs, List.drop_eq_getElem_cons hlt, readRegs_append, hpre, andThen_done, readRegs]
  simp only [hr, andThen_raised]

/-- The `k` good reads before the `k`-th took two answers each. -/
theorem afterReads_env {k : Nat} (hk : rs[k]? = some r) (s : State) :
    (afterReads (rs.take k) s).env = s.env.dropBus (2 * k) := by
  obtain ⟨hlt, -⟩ := List.getElem?_eq_some_iff.1 hk
  rw [afterReads, List.length_take_of_le hlt.le]

/-- Reads of which the `k`-th fails in its address-set phase (20_memory.md R65). -/
theorem readRegs_addressFail {k n : Nat} (hw : s.cfg.wf = true) (hk : rs[k]? = some r)
    (hb : s.env.busFailsAt (2 * k) n = true) :
    readRegs rs s = .raised ⟨.busTransfer, infoWord 0x01 r⟩ { s with
      err := ⟨1, infoWord 0x01 r⟩
      tr := s.tr ++ ((rs.take k).flatMap fun q => regrdEvents s.cfg q (s.chip.load s.cfg q)) ++
        [.busW s.cfg.devAddr [r] false]
      env := s.env.dropBus (2 * k + 1) } := by
  obtain ⟨hok, hfail⟩ := (busFailsAt_add (2 * k) 0 n).1 hb
  have henv := afterReads_env hk s
  rw [← henv] at hfail
  have hread := regRead_addressFail (r := r) (s := afterReads (rs.take k) s) hw (busFailsAt_zero.1 hfail)
  rw [readRegs_raised hw hk hok hread, henv]
  simp [afterReads, setErr, emit, errCode]

/-- Reads of which the `k`-th fails in its data phase (20_memory.md R65). -/
theorem readRegs_dataFail {k n : Nat} (hw : s.cfg.wf = true) (hk : rs[k]? = some r)
    (hb : s.env.busFailsAt (2 * k + 1) n = true) :
    readRegs rs s = .raised ⟨.busTransfer, infoWord 0x02 r⟩ { s with
      err := ⟨1, infoWord 0x02 r⟩
      tr := s.tr ++ ((rs.take k).flatMap fun q => regrdEvents s.cfg q (s.chip.load s.cfg q)) ++
        [.busW s.cfg.devAddr [r] true, .busR s.cfg.devAddr 1 none]
      env := s.env.dropBus (2 * k + 2) } := by
  obtain ⟨hok, hfail⟩ := (busFailsAt_add (2 * k) 1 n).1 hb
  have henv := afterReads_env hk s
  rw [← henv] at hfail
  obtain ⟨h1, h2⟩ := busFailsAt_one.1 hfail
  have hread := regRead_dataFail (r := r) (s := afterReads (rs.take k) s) hw h1 h2
  rw [readRegs_raised hw hk hok hread, henv]
  simp [afterReads, setErr, emit, errCode]

/-- A read, whatever the bus answers, leaves the chip alone; done it leaves ERR alone, failed it raises the
error of its register (20_memory.md R65, 60_exceptions.md R272). -/
theorem regRead_readsOnly (hw : s.cfg.wf = true) (r : Byte) :
    (regRead r s).Holds (fun _ t => ReadsOnly s t ∧ t.err = s.err)
      (fun _ t => ReadsOnly s t ∧ ReadError r t.err) := by
  cases hx : s.env.bus.head with
  | hang => simp [regRead, busWrite, hx]
  | got x =>
    cases x with
    | fail n => rw [regRead_addressFail hw hx]; exact ⟨rfl, .inl rfl⟩
    | ok =>
      cases hy : s.env.bus.tail.head with
      | hang =>
        rw [tail_eq_drop] at hy
        simp [regRead, busWrite, busRead, hx, hy, TransferResult.arrived, receive_short hw,
          TransferResult.isOk, tail_eq_drop]
      | got y =>
        cases y with
        | ok => rw [regRead_ok hw hx hy]; exact ⟨rfl, rfl⟩
        | fail n => rw [regRead_dataFail hw hx hy]; exact ⟨rfl, .inr rfl⟩

/-- Reads one after another, whatever the bus answers: done they answer a byte each, failed they raise the error
of one of them (40_register_protocol.md R145). -/
theorem readRegs_readsOnly (hw : s.cfg.wf = true) (rs : List Byte) :
    (readRegs rs s).Holds (fun bytes t => ReadsOnly s t ∧ t.err = s.err ∧ bytes.length = rs.length)
      (fun _ t => ReadsOnly s t ∧ ∃ r ∈ rs, ReadError r t.err) := by
  induction rs generalizing s with
  | nil => exact ⟨rfl, rfl, rfl⟩
  | cons r rest ih =>
    refine holds_andThen (holds_mono (regRead_readsOnly hw r) (fun _ _ h => h) ?_) fun b t ⟨ht, herr⟩ => ?_
    · exact fun _ _ ⟨h, he⟩ => ⟨h, r, List.mem_cons_self, he⟩
    · have hrest := ih (s := t) (by rw [ht.cfg]; exact hw)
      refine holds_andThen (holds_mono hrest (fun _ _ h => h) ?_) fun bs u ⟨hu, herr', hlen⟩ => ?_
      · exact fun _ _ ⟨h, q, hq, he⟩ => ⟨ht.trans h, q, List.mem_cons_of_mem r hq, he⟩
      · exact ⟨ht.trans hu, herr'.trans herr, congrArg (· + 1) hlen⟩

/-- Where every answer comes the reads end (70_reset_and_hazards.md R333). -/
theorem readRegs_completes (hw : s.cfg.wf = true) (hr : s.env.responsive = true) (rs : List Byte) :
    (readRegs rs s).Completes := by
  induction rs generalizing s with
  | nil => trivial
  | cons r rest ih =>
    refine completes_andThen (regRead_completes hw hr)
      (regRead_keeps (responsive_kept s.cfg) r s ⟨rfl, hr⟩) fun b t ⟨hc, ht⟩ => ?_
    exact completes_andThen (P := fun _ _ => True) (Q := fun _ _ => True) (ih (by rw [hc]; exact hw) ht)
      (by cases readRegs rest t <;> trivial) fun _ _ _ => trivial

theorem rdallOp_completes (hw : s.cfg.wf = true) (hr : s.env.responsive = true) : (rdallOp s).Completes :=
  completes_andThen (readRegs_completes hw hr _) (readRegs_readsOnly hw _) fun _ _ _ => trivial

/-- RDALL done writes 67 bytes into RES_SNAP and leaves ERR alone; failed it writes ERR and not RES_SNAP
(40_register_protocol.md R145). -/
theorem rdallOp_cases (hw : s.cfg.wf = true) : (rdallOp s).Holds
    (fun _ t => t = { s with
        err := t.err, resSnap := t.resSnap, resSnapWritten := t.resSnapWritten, tr := t.tr
        env := { s.env with bus := t.env.bus } } ∧
      t.err = s.err ∧ t.resSnap.length = 67 ∧ t.resSnapWritten = true)
    (fun _ t => ReadsOnly s t ∧ ∃ r ∈ readAllOrder s.cfg, ReadError r t.err) := by
  refine holds_andThen (readRegs_readsOnly hw _) fun bytes t ⟨ht, herr, hlen⟩ => ?_
  exact ⟨by rw [ht], herr, hlen.trans (readAllOrder_length s.cfg), rfl⟩

/-- The bytes of RES_SNAP are decoded by their place in the order of reading (30_encoding.md R108). -/
theorem snapChannelView_reads (cfg : Config) (reads : Byte → Byte) (c : Channel) :
    snapChannelView ((readAllOrder cfg).map reads) c =
      channelView (reads (edgeAddr cfg c .onL)) (reads (edgeAddr cfg c .onH))
        (reads (edgeAddr cfg c .offL)) (reads (edgeAddr cfg c .offH)) := by
  fin_cases c <;> rfl

/-- The PWM frequency, multiplied out (10_state.md R35). -/
theorem pwmFrequency_eq (prescale : Byte) :
    pwmFrequency prescale = 25000000 / (4096 * (prescale.toNat + 1)) := by
  simp [pwmFrequency, pwmPeriodCycles]

end rdall

/-- Settles O34: 67 reads answered `ok`, whose bytes stand in RES_SNAP in the order of reading. -/
theorem rdallReadsEveryRegister : Obligations.RdallReadsEveryRegister := by
  intro s h hw hh hb reads bytes
  have hlen : (readAllOrder s.cfg).length = 67 := readAllOrder_length s.cfg
  refine ⟨?_, (List.length_map _).trans hlen, fun r b => load_written, rfl, pwmFrequency_eq _, fun c => ?_⟩
  · have hread := readRegs_ok (readAllOrder s.cfg) (clearErr s) hw (by rw [hlen]; exact hb)
    rw [exec_opRdall_open hh, rdallOp, clearErr_cfg, hread, hlen]
    rfl
  · rw [← snapChannelView_reads]
    exact Vector.get_ofFn _ c

/-- Settles O35: the reads before the failed one are good, and it raises in its phase; whatever the bus answers,
each read leaves all but its own answers, the trace and ERR alone. -/
theorem rdallKeepsResultOnError : Obligations.RdallKeepsResultOnError := by
  intro s h hw hh
  rw [exec_opRdall_open hh]
  constructor
  · intro k n r hk before
    constructor
    · intro hb
      rw [rdallOp, clearErr_cfg, readRegs_addressFail (s := clearErr s) hw hk hb]
      rfl
    · intro hb
      rw [rdallOp, clearErr_cfg, readRegs_dataFail (s := clearErr s) hw hk hb]
      rfl
  · intro hr
    obtain ⟨t, ht⟩ := outcome_completes (rdallOp_completes (s := clearErr s) hw hr)
    have hcases := rdallOp_cases (s := clearErr s) hw
    rcases outcome_next ht with hdone | ⟨e, hraised⟩
    · rw [hdone] at hcases
      obtain ⟨hframe, herr, hlen, hwritten⟩ := hcases
      exact ⟨t, ht, hframe, .inl ⟨herr, hlen, hwritten⟩⟩
    · rw [hraised] at hcases
      obtain ⟨hframe, herr⟩ := hcases
      refine ⟨t, ht, ?_, .inr ⟨?_, ?_, herr⟩⟩ <;> rw [hframe] <;> rfl

end Sys2Proof.Machine
end

section
/-! OPEN with each answer of the bus (40_register_protocol.md R142): the storage and the connection, the reset, and
the four register writes with the wait between them. -/
namespace Sys2Proof.Machine

/-- Which transfer fails rests on the bus's answers alone. -/
theorem busFailsAt_congr {e e' : Env} (k n : Nat) (h : e.bus = e'.bus) : e.busFailsAt k n = e'.busFailsAt k n := by
  rw [Env.busFailsAt, Env.busFailsAt, busOkFor_congr k h, h]

/-! ### The register writes of OPEN -/

/-- The writes before the wake-up wait (40_register_protocol.md R142, steps 6 and 7). -/
def wakeWrites (cfg : Config) (p : Byte) : List (Byte × Byte) := [(regPrescale, p), (regMode1, cfg.m1Wake)]

/-- The writes after it (40_register_protocol.md R142, steps 9 and 10). -/
def runWrites (cfg : Config) : List (Byte × Byte) := [(regMode1, cfg.m1Run), (regMode2, cfg.m2Init)]

/-- The trace of OPEN from its BusOpen to its settle wait (40_register_protocol.md R142, steps 2 to 4). -/
def connectEvents (cfg : Config) : List Event := [.busOpen true, swrstEvent cfg true, .delay .settle]

/-- The trace of OPEN from its first register write on (40_register_protocol.md R142). -/
def configureEvents (cfg : Config) (p : Byte) : List Event := (openEvents cfg p).drop 3

section configure
variable {s : State} {p : Byte}

theorem openEvents_eq (cfg : Config) (p : Byte) :
    openEvents cfg p = connectEvents cfg ++ configureEvents cfg p := rfl

/-- The trace of OPEN up to a register write: the connection and the reset, and what comes of the writes. -/
theorem openEvents_take (cfg : Config) (p : Byte) (k m : Nat) :
    (openEvents cfg p).take (k + 3 + m) = connectEvents cfg ++ (configureEvents cfg p).take (k + m) := by
  rw [Nat.add_right_comm]
  rfl

theorem configureEvents_eq (cfg : Config) (p : Byte) : configureEvents cfg p =
    writeEvents cfg (wakeWrites cfg p) ++ .delay .wake :: writeEvents cfg (runWrites cfg) := rfl

theorem openWrites_eq (cfg : Config) (p : Byte) : openWrites cfg p = wakeWrites cfg p ++ runWrites cfg := rfl

theorem configureChip_eq (cfg : Config) (p : Byte) : configureChip cfg p =
    runSteps (regWrites (wakeWrites cfg p) ++ delay .wake :: regWrites (runWrites cfg)) := rfl

/-- PRESCALE is written before MODE1 wakes the chip (70_reset_and_hazards.md R322). -/
theorem takes_wakeWrites {cfg : Config} {chip : Chip} (hl : chip.lowPower cfg = some true) :
    chip.Takes cfg (wakeWrites cfg p) :=
  ⟨fun _ => hl, nofun, trivial⟩

theorem takes_runWrites {cfg : Config} {chip : Chip} : chip.Takes cfg (runWrites cfg) :=
  ⟨nofun, nofun, trivial⟩

/-- The chip's four writes and the wait, on a sleeping chip, each transfer answered `ok`. -/
theorem configureChip_ok (hw : s.cfg.wf = true) (hl : s.chip.lowPower s.cfg = some true)
    (hb : s.env.busOkFor 4 = true) :
    configureChip s.cfg p s = .done () { s with
      env := s.env.dropBus 4
      tr := s.tr ++ configureEvents s.cfg p
      chip := s.chip.withRegs (openWrites s.cfg p) } := by
  obtain ⟨hb1, hb2⟩ := (busOkFor_add 2 2).1 hb
  rw [configureChip_eq, runSteps_append, regWrites_ok hw (takes_wakeWrites hl) (by exact hb1), andThen_done,
    runSteps_cons, delay_eq, andThen_done]
  refine (regWrites_ok (by exact hw) (by exact takes_runWrites) (by exact hb2)).trans ?_
  simp only [emit, openWrites_eq, withRegs_append, configureEvents_eq, dropBus_dropBus, List.append_assoc,
    List.singleton_append]
  rfl

/-- The chip's four writes and the wait, the `k`-th write answered `fail`: what comes before it in TR and in the
chip, the register itself only if both its bytes had arrived (70_reset_and_hazards.md R328). -/
theorem configureChip_failed {k n : Nat} {w : Byte × Byte} (hw : s.cfg.wf = true)
    (hl : s.chip.lowPower s.cfg = some true) (hk : (openWrites s.cfg p)[k]? = some w)
    (hb : s.env.busFailsAt k n = true) :
    configureChip s.cfg p s = .raised ⟨.busTransfer, infoWord 0x00 w.1⟩ { s with
      err := ⟨1, infoWord 0x00 w.1⟩
      env := s.env.dropBus (k + 1)
      tr := s.tr ++ (configureEvents s.cfg p).take (k + if 2 ≤ k then 1 else 0) ++
        [regwrEvent s.cfg w.1 w.2 false]
      chip := s.chip.withRegs ((openWrites s.cfg p).take (if 2 ≤ n then k + 1 else k)) } := by
  rw [configureChip_eq, runSteps_append]
  by_cases hk2 : k < 2
  · have hk' : (wakeWrites s.cfg p)[k]? = some w := by
      rw [← hk, openWrites_eq]
      exact (List.getElem?_append_left hk2).symm
    have hevents : (configureEvents s.cfg p).take (k + if 2 ≤ k then 1 else 0) =
        writeEvents s.cfg ((wakeWrites s.cfg p).take k) := by
      interval_cases k <;> rfl
    have hmade : (openWrites s.cfg p).take (if 2 ≤ n then k + 1 else k) =
        (wakeWrites s.cfg p).take (if 2 ≤ n then k + 1 else k) := by
      interval_cases k <;> split <;> rfl
    rw [regWrites_failed hw (takes_wakeWrites hl) hk' hb, andThen_raised, hevents, hmade]
  · obtain ⟨j, rfl⟩ : ∃ j, k = 2 + j := Nat.exists_eq_add_of_le (by omega)
    obtain ⟨hb1, hb2⟩ := (busFailsAt_add 2 j n).1 hb
    have hk' : (runWrites s.cfg)[j]? = some w := by
      rw [← hk, openWrites_eq, List.getElem?_append_right (Nat.le_add_right 2 j)]
      exact congrArg _ (Nat.add_sub_cancel_left 2 j).symm
    have hj : j < 2 := (List.getElem?_eq_some_iff.1 hk').1
    have hevents : (configureEvents s.cfg p).take (2 + j + if 2 ≤ 2 + j then 1 else 0) =
        writeEvents s.cfg (wakeWrites s.cfg p) ++
          .delay .wake :: writeEvents s.cfg ((runWrites s.cfg).take j) := by
      interval_cases j <;> rfl
    have hmade : (openWrites s.cfg p).take (if 2 ≤ n then 2 + j + 1 else 2 + j) =
        wakeWrites s.cfg p ++ (runWrites s.cfg).take (if 2 ≤ n then j + 1 else j) := by
      interval_cases j <;> split <;> rfl
    rw [regWrites_ok hw (takes_wakeWrites hl) (by exact hb1), andThen_done, runSteps_cons, delay_eq, andThen_done,
      hevents, hmade, withRegs_append]
    refine (regWrites_failed (by exact hw) (by exact takes_runWrites) hk' (by exact hb2)).trans ?_
    simp only [emit, dropBus_dropBus, List.append_assoc, List.cons_append]
    rfl

end configure

/-! ### The connection and the reset -/

/-- The state after OPEN's first steps: an open handle closed, the storage's answer taken (40_register_protocol.md
R142, steps 0 and 1). -/
def stored (s : State) : State :=
  { s with
    err := ⟨0, 0⟩
    handle := none
    tr := s.tr ++ if s.handle.isSome then [.busClose] else []
    env := { s.env with storage := s.env.storage.tail } }

/-- The state after its BusOpen (40_register_protocol.md R142, step 2). -/
def connected (s : State) : State :=
  { stored s with
    tr := (stored s).tr ++ [.busOpen true]
    env := { (stored s).env with busOpen := s.env.busOpen.tail } }

/-- The state after its reset (40_register_protocol.md R142, steps 3 and 4). -/
def chipReset (s : State) : State :=
  { connected s with
    tr := s.tr ++ (if s.handle.isSome then [.busClose] else []) ++ connectEvents s.cfg
    chip := s.chip.softwareReset
    env := (connected s).env.dropBus 1 }

section connect
variable {s : State} {conn : Nat} {p : Byte}

@[simp] theorem connected_cfg (s : State) : (connected s).cfg = s.cfg := rfl

theorem connected_tr (s : State) (es : List Event) : (connected s).tr ++ es =
    s.tr ++ (if s.handle.isSome then [.busClose] else []) ++ .busOpen true :: es :=
  List.append_assoc _ _ _

theorem chipReset_tr (s : State) : (chipReset s).tr =
    s.tr ++ (if s.handle.isSome then [.busClose] else []) ++ connectEvents s.cfg := rfl

theorem connected_dropBus (s : State) (n : Nat) : (connected s).env.dropBus n =
    { s.env.dropBus n with storage := s.env.storage.tail, busOpen := s.env.busOpen.tail } := rfl

theorem chipReset_dropBus (s : State) (n : Nat) : (chipReset s).env.dropBus n =
    { s.env.dropBus (n + 1) with storage := s.env.storage.tail, busOpen := s.env.busOpen.tail } := by
  rw [chipReset, dropBus_dropBus, connected_dropBus, Nat.add_comm]

@[simp] theorem closeOnRaise_raised (e : Raise) (s : State) :
    closeOnRaise (.raised e s) = .raised e (busClose s) := rfl

theorem exec_opOpen (s : State) : exec .opOpen s = (openOp (clearErr s)).outcome := rfl

/-- OPEN asks for storage before any bus activity (40_register_protocol.md R142, 60_exceptions.md R274). -/
theorem openOp_eq (s : State) : openOp (clearErr s) =
    if s.env.storage.head then (busOpen (stored s)).andThen fun conn t => closeOnRaise (initChip conn t)
    else raiseErr .allocation (infoWord 0x00 0x00) (stored s) := by
  rw [openOp, closeHandle_eq]
  rfl

/-- With storage and a connection OPEN goes on to the chip, and closes the bus on a raise. -/
theorem openOp_connected (hst : s.env.storage.head = true) (ho : s.env.busOpen.head = some conn) :
    openOp (clearErr s) = closeOnRaise (initChip conn (connected s)) := by
  rw [openOp_eq, if_pos hst, busOpen_some (s := stored s) ho]
  rfl

/-- On an open connection OPEN resets the chip, and with the prescale of FREQ_HZ configures it
(40_register_protocol.md R142). -/
theorem openOp_reset (hst : s.env.storage.head = true) (ho : s.env.busOpen.head = some conn)
    (hb : s.env.bus.head = .got .ok) (hp : prescaleOf s.cfg.freqHz = some p) :
    openOp (clearErr s) = closeOnRaise ((configureChip s.cfg p (chipReset s)).andThen fun _ t =>
      .done () { t with handle := some ⟨conn, p⟩ }) := by
  have hreset : resetOp (connected s) = .done () (chipReset s) := by
    rw [resetOp_ok (s := connected s) hb, connected_tr]
    rfl
  rw [openOp_connected hst ho, initChip, hreset, andThen_done, connected_cfg, hp]

end connect

/-- Settles O26: the storage, the connection and the reset, then the four writes on the sleeping chip. -/
theorem openConfiguresTheChip : Obligations.OpenConfiguresTheChip := by
  intro s conn hw hst ho hb
  obtain ⟨p, hp⟩ := wf_frequency hw
  obtain ⟨hb1, hb4⟩ := (busOkFor_add 1 4).1 hb
  have hconf : configureChip s.cfg p (chipReset s) = _ := configureChip_ok (s := chipReset s) hw rfl hb4
  refine ⟨p, hp, ?_⟩
  rw [exec_opOpen, openOp_reset hst ho (busOkFor_one.1 hb1) hp, hconf, chipReset_dropBus, chipReset_tr,
    openEvents_eq, ← List.append_assoc]
  rfl

/-- Settles O27: each of OPEN's first three steps that fails ends it, and a failed reset closes the bus. -/
theorem openFailsBeforeConfiguring : Obligations.OpenFailsBeforeConfiguring := by
  intro s conn n hw closed
  rw [exec_opOpen]
  refine ⟨fun hst => ?_, fun hst ho => ?_, fun hst ho hb => ?_⟩
  · rw [openOp_eq, if_neg (by simp [hst])]
    rfl
  · rw [openOp_eq, if_pos hst, busOpen_none (s := stored s) ho]
    rfl
  · have hreset := resetOp_fail (s := connected s) (busFailsAt_zero.1 hb)
    rw [openOp_connected hst ho, initChip, hreset, connected_dropBus, connected_tr, andThen_raised,
      closeOnRaise_raised, busClose, emit]
    simp only [List.append_assoc, closed]
    rfl

/-- Settles O28: OPEN up to its reset, then the four writes, of which the `k`-th is answered `fail`. -/
theorem openFailsWhileConfiguring : Obligations.OpenFailsWhileConfiguring := by
  intro s conn n k p w hw hp hst ho hk hb made
  obtain ⟨hb1, hbk⟩ := (busFailsAt_add 1 k n).1 (Nat.add_comm k 1 ▸ hb)
  have hbk' : (chipReset s).env.busFailsAt k n = true := by
    rw [← hbk]
    exact busFailsAt_congr k n rfl
  have hconf : configureChip s.cfg p (chipReset s) = _ := configureChip_failed (s := chipReset s) hw rfl hk hbk'
  rw [exec_opOpen, openOp_reset hst ho (busOkFor_one.1 hb1) hp, hconf, chipReset_dropBus, chipReset_tr,
    openEvents_take, andThen_raised, closeOnRaise_raised, withRegs_eq, busClose, emit]
  simp only [List.append_assoc]
  rfl

end Sys2Proof.Machine
end

section
/-! The Channel Duty-Cycle Mapper (41_duty_mapper.md): what a floating-point word denotes, which words MAP accepts,
and the count it gives. -/
namespace Sys2Proof.Machine

/-! ### What a word denotes -/

section words

/-- The magnitude that an exponent and a fraction field denote where the exponent is not all ones, in units of the
smallest one (41_duty_mapper.md R181). -/
def floatMagnitude (e m fBits : Nat) : Nat := if e = 0 then m else (2 ^ fBits + m) * 2 ^ (e - 1)

variable {negative : Bool} {e m eMax fBits : Nat}

theorem floatValue_nan (he : e = eMax) (hm : m ≠ 0) : floatValue negative e m eMax fBits = .nan := by
  rw [floatValue, if_pos he, if_neg hm]

theorem floatValue_infinite (he : e = eMax) (hm : m = 0) :
    floatValue negative e m eMax fBits = .infinite negative := by
  rw [floatValue, if_pos he, if_pos hm]

theorem floatValue_finite (he : e ≠ eMax) :
    floatValue negative e m eMax fBits =
      .finite (if negative then -(floatMagnitude e m fBits : Int) else floatMagnitude e m fBits) :=
  if_neg he

/-- The magnitude over the rationals, the unit being `2 ^ (-u)`. -/
theorem floatMagnitude_scaled (e m fBits : Nat) (u : ℤ) :
    (floatMagnitude e m fBits : ℚ) * 2 ^ (-u) =
      if e = 0 then (m : ℚ) * 2 ^ (-u) else (2 ^ fBits + m : ℚ) * 2 ^ ((e : ℤ) - (u + 1)) := by
  rw [floatMagnitude]
  split
  · rfl
  · next he =>
    have hexp : (e : ℤ) - (u + 1) = ((e - 1 : ℕ) : ℤ) + -u := by omega
    rw [hexp, zpow_add₀ two_ne_zero, zpow_natCast]
    push_cast
    ring

/-- A word that is neither a NaN nor an infinity denotes its magnitude with its sign (41_duty_mapper.md R181). -/
theorem floatValue_scaled (negative : Bool) (m fBits : Nat) (u : ℤ) (he : e ≠ eMax) :
    let sign : ℚ := if negative then -1 else 1
    ∃ x : Int, floatValue negative e m eMax fBits = .finite x ∧
      (x : ℚ) * 2 ^ (-u) =
        if e = 0 then sign * m * 2 ^ (-u) else sign * (2 ^ fBits + m) * 2 ^ ((e : ℤ) - (u + 1)) := by
  refine ⟨_, floatValue_finite he, ?_⟩
  have hmag := floatMagnitude_scaled e m fBits u
  cases negative with
  | false => simpa using hmag
  | true =>
    simp only [if_true, Int.cast_neg, Int.cast_natCast, neg_mul, one_mul, hmag]
    split <;> rfl

/-- Magnitudes are ordered as the exponent and the fraction field read as one number are; here against a power of
two, whose fraction field is 0 (41_duty_mapper.md R183). -/
theorem floatMagnitude_le_pow (k : Nat) (hm : m < 2 ^ fBits) :
    floatMagnitude e m fBits ≤ 2 ^ fBits * 2 ^ k ↔ 2 ^ fBits * e + m ≤ 2 ^ fBits * (k + 1) := by
  rw [floatMagnitude]
  generalize 2 ^ fBits = p at hm ⊢
  rcases e with _ | e
  · have hone : p * 1 ≤ p * 2 ^ k := Nat.mul_le_mul_left p Nat.one_le_two_pow
    have hk : p * 1 ≤ p * (k + 1) := Nat.mul_le_mul_left p (by omega)
    rw [if_pos rfl]
    omega
  · rw [if_neg e.succ_ne_zero, Nat.add_sub_cancel]
    rcases lt_trichotomy e k with hlt | rfl | hgt
    · have hmag : (p + m) * 2 ^ e ≤ p * 2 ^ k := calc
        (p + m) * 2 ^ e ≤ (p * 2) * 2 ^ e := Nat.mul_le_mul_right _ (by omega)
        _ = p * 2 ^ (e + 1) := by ring
        _ ≤ p * 2 ^ k := Nat.mul_le_mul_left p (Nat.pow_le_pow_right two_pos hlt)
      have hword : p * (e + 1) + m ≤ p * (k + 1) := calc
        p * (e + 1) + m ≤ p * (e + 1) + p := by omega
        _ = p * (e + 2) := by ring
        _ ≤ p * (k + 1) := Nat.mul_le_mul_left p (by omega)
      exact iff_of_true hmag hword
    · rw [Nat.mul_le_mul_right_iff Nat.one_le_two_pow]
      omega
    · have hmag : p * 2 ^ k < (p + m) * 2 ^ e :=
        Nat.mul_lt_mul_of_le_of_lt (by omega) (Nat.pow_lt_pow_right one_lt_two hgt) (by omega)
      have hword : p * (k + 1) < p * (e + 1) + m :=
        (Nat.mul_lt_mul_of_pos_left (by omega) (by omega)).trans_le (Nat.le_add_right _ _)
      exact iff_of_false hmag.not_ge hword.not_ge

theorem floatMagnitude_eq_zero : floatMagnitude e m fBits = 0 ↔ e = 0 ∧ m = 0 := by
  rw [floatMagnitude]
  split <;> simp_all

end words

/-- Settles O60: both formats by the one decoding of sign, exponent and fraction. -/
theorem floatWordsDenoteTheirValue : Obligations.FloatWordsDenoteTheirValue :=
  ⟨fun w => ⟨floatValue_nan, floatValue_infinite, floatValue_scaled (w.getLsbD 31) _ 23 149⟩,
    fun w => ⟨floatValue_nan, floatValue_infinite, floatValue_scaled (w.getLsbD 63) _ 52 1074⟩,
    by decide, by decide, by decide⟩

/-! ### Which words MAP accepts -/

section accepted
variable {w : F32} {x : Nat} {y : Int}

/-- The three fields of a binary32 word (41_duty_mapper.md R181). -/
theorem f32_fields (w : F32) :
    w.toNat = 2 ^ 31 * (w.getLsbD 31).toNat +
      (2 ^ 23 * (w.extractLsb' 23 8).toNat + (w.extractLsb' 0 23).toNat) := by
  have hw := w.isLt
  simp only [BitVec.extractLsb'_toNat, BitVec.getLsbD, Nat.toNat_testBit, Nat.shiftRight_eq_div_pow]
  omega

/-- The range check of a word that denotes `y` units (41_duty_mapper.md R183). -/
theorem fractionOf_finite (h : f32Value w = .finite y) :
    fractionOf w = if 0 ≤ y ∧ y ≤ 2 ^ 149 then some y.toNat else none := by
  rw [fractionOf, h]
  rfl

/-- An accepted word denotes a number of units from 0 to 2^149 (41_duty_mapper.md R183). -/
theorem fractionOf_some (h : fractionOf w = some x) : f32Value w = .finite x ∧ x ≤ f32One := by
  cases hv : f32Value w with
  | nan => simp [fractionOf, hv] at h
  | infinite negative => simp [fractionOf, hv] at h
  | finite y =>
    rw [fractionOf_finite hv, Option.ite_none_right_eq_some, Option.some.injEq] at h
    obtain ⟨⟨hlo, hhi⟩, rfl⟩ := h
    exact ⟨by rw [Int.toNat_of_nonneg hlo], Int.toNat_le.2 (mod_cast hhi)⟩

theorem f32Value_ne_finite (he : (w.extractLsb' 23 8).toNat = 255) : f32Value w ≠ .finite y := by
  rw [f32Value, floatValue, if_pos he]
  split <;> nofun

/-- The accepted words, by their bits: sign 0 up to 1.0, and minus zero (41_duty_mapper.md R183). -/
theorem fractionOf_isSome_iff :
    (fractionOf w).isSome = true ↔ w.toNat ≤ 0x3F800000 ∨ w = 0x80000000#32 := by
  have hfields := f32_fields w
  have hm := (w.extractLsb' 0 23).isLt
  have he8 := (w.extractLsb' 23 8).isLt
  rw [← BitVec.toNat_inj, hfields, BitVec.toNat_ofNat]
  by_cases he : (w.extractLsb' 23 8).toNat = 255
  · have hnone : fractionOf w = none := by
      by_contra hs
      obtain ⟨x, hx⟩ := Option.ne_none_iff_exists'.1 hs
      exact f32Value_ne_finite he (fractionOf_some hx).1
    simp only [hnone, Option.isSome_none, Bool.false_eq_true, false_iff]
    omega
  · rw [fractionOf_finite (floatValue_finite he), Option.isSome_ite]
    generalize (w.extractLsb' 23 8).toNat = e, (w.extractLsb' 0 23).toNat = m at *
    have hzero := floatMagnitude_eq_zero (e := e) (m := m) (fBits := 23)
    have hone := floatMagnitude_le_pow (e := e) 126 hm
    cases w.getLsbD 31 with
    | false =>
      simp only [Bool.false_eq_true, if_false, Bool.toNat_false]
      omega
    | true =>
      simp only [if_true, Bool.toNat_true]
      omega

end accepted

/-! ### The count -/

section count
variable {entry : CalEntry} {num num' den x y : Nat}

theorem roundQuot_mul_right (q : Nat) (hden : 0 < den) : roundQuot (q * den) den = q := by
  have hnum : 2 * (q * den) + den = den + 2 * den * q := by ring
  rw [roundQuot, hnum, Nat.add_mul_div_left _ _ (by omega), Nat.div_eq_of_lt (by omega), Nat.zero_add]

theorem roundQuot_mono (den : Nat) (h : num ≤ num') : roundQuot num den ≤ roundQuot num' den :=
  Nat.div_le_div_right (by omega)

/-- The rounded quotient is the floor of the quotient plus one half (00_scope.md R10). -/
theorem roundQuot_eq_floor (num : Nat) (hden : 0 < den) :
    roundQuot num den = ⌊(num : ℚ) / den + 1 / 2⌋.toNat := by
  have hq : (num : ℚ) / den + 1 / 2 = ((2 * num + den : ℕ) : ℚ) / (2 * den : ℕ) := by
    push_cast
    field_simp
  rw [hq, Int.floor_toNat, Nat.floor_div_eq_div, roundQuot]

/-- The number of units MAP scales: those of the fraction, or of what is left of 1 where the entry is inverted
(41_duty_mapper.md R182). -/
def mapUnits (entry : CalEntry) (x : Nat) : Nat := if entry.invert then f32One - x else x

theorem mapUnits_le (hx : x ≤ f32One) : mapUnits entry x ≤ f32One := by
  rw [mapUnits]
  split
  · exact Nat.sub_le _ _
  · exact hx

theorem mapCount_eq (entry : CalEntry) (x : Nat) :
    mapCount entry x = entry.minCount.toNat +
      roundQuot ((entry.maxCount.toNat - entry.minCount.toNat) * mapUnits entry x) f32One := rfl

/-- Half the span, of which an odd one is rounded up (41_duty_mapper.md R185(c)). -/
theorem roundQuot_half (q : Nat) : roundQuot (q * 2 ^ 148) f32One = (q + 1) / 2 := by
  rw [roundQuot, f32One]
  omega

theorem mapCount_of_zeroUnits (h : mapUnits entry x = 0) : mapCount entry x = entry.minCount.toNat := by
  have hround := roundQuot_mul_right 0 (Nat.two_pow_pos 149)
  rw [Nat.zero_mul] at hround
  rw [mapCount_eq, h, Nat.mul_zero, hround, Nat.add_zero]

theorem mapCount_of_allUnits (h : mapUnits entry x = f32One)
    (hm : entry.minCount.toNat ≤ entry.maxCount.toNat) : mapCount entry x = entry.maxCount.toNat := by
  rw [mapCount_eq, h, roundQuot_mul_right _ (Nat.two_pow_pos 149), Nat.add_sub_cancel' hm]

theorem mapCount_mono (h : mapUnits entry x ≤ mapUnits entry y) : mapCount entry x ≤ mapCount entry y :=
  Nat.add_le_add_left (roundQuot_mono _ (Nat.mul_le_mul_left _ h)) _

theorem mapCount_ge_min (entry : CalEntry) (x : Nat) : entry.minCount.toNat ≤ mapCount entry x :=
  Nat.le_add_right _ _

theorem mapCount_le_max (hx : x ≤ f32One) (hm : entry.minCount.toNat ≤ entry.maxCount.toNat) :
    mapCount entry x ≤ entry.maxCount.toNat := by
  have hround := roundQuot_mono f32One (Nat.mul_le_mul_left
    (entry.maxCount.toNat - entry.minCount.toNat) (mapUnits_le (entry := entry) hx))
  rw [roundQuot_mul_right _ (Nat.two_pow_pos 149)] at hround
  rw [mapCount_eq]
  omega

/-- The count over the rationals, with one rounding (41_duty_mapper.md R182, R184). -/
theorem mapCount_eq_floor (hx : x ≤ f32One) (hm : entry.minCount.toNat ≤ entry.maxCount.toNat) :
    mapCount entry x = entry.minCount.toNat +
      ⌊((entry.maxCount.toNat : ℚ) - entry.minCount.toNat) *
        (if entry.invert then 1 - (x : ℚ) / 2 ^ 149 else (x : ℚ) / 2 ^ 149) + 1 / 2⌋.toNat := by
  have hunits : (mapUnits entry x : ℚ) / 2 ^ 149 =
      if entry.invert then 1 - (x : ℚ) / 2 ^ 149 else (x : ℚ) / 2 ^ 149 := by
    rw [mapUnits]
    split
    · rw [Nat.cast_sub hx, sub_div]
      norm_num
    · rfl
  rw [mapCount_eq, roundQuot_eq_floor _ (Nat.two_pow_pos 149), ← hunits, Nat.cast_mul, Nat.cast_sub hm,
    mul_div_assoc]
  norm_num

end count

/-! ### MAP -/

section map
variable {entry : CalEntry} {w : F32} {d : Duty} {x : Nat} {s : State} {c : Channel}

theorem mapDuty_of_fraction (h : fractionOf w = some x) :
    mapDuty entry w = some (BitVec.ofNat 12 (mapCount entry x)) := by
  rw [mapDuty, h]

/-- A result of MAP is the count of an accepted fraction, which fits in 12 bits (41_duty_mapper.md R184(a)). -/
theorem mapDuty_some (hm : entry.minCount.toNat ≤ entry.maxCount.toNat) (h : mapDuty entry w = some d) :
    ∃ x : Nat, f32Value w = .finite x ∧ x ≤ f32One ∧ d.toNat = mapCount entry x := by
  have hs : (fractionOf w).isSome = true := by rw [← mapDuty_isSome entry, h]; rfl
  obtain ⟨x, hx⟩ := Option.isSome_iff_exists.1 hs
  obtain ⟨hv, hle⟩ := fractionOf_some hx
  refine ⟨x, hv, hle, ?_⟩
  obtain rfl := Option.some.inj ((mapDuty_of_fraction hx).symm.trans h)
  rw [BitVec.toNat_ofNat]
  exact Nat.mod_eq_of_lt ((mapCount_le_max hle hm).trans_lt entry.maxCount.isLt)

/-- MAP of a channel of the block is MAP of its entry (41_duty_mapper.md R182). -/
theorem exec_opMap_channel (hc : s.argCh.toNat = c.val) :
    exec .opMap s = ((mapChannel c s.argFrac (clearErr s)).andThen fun d t =>
      .done () { t with resDuty := d, resDutyWritten := true }).outcome := by
  have hcv : (Fin.ofNat 16 c.val : Channel) = c := Fin.ext (Nat.mod_eq_of_lt c.isLt)
  change (mapOp s.argCh s.argFrac (clearErr s)).outcome = _
  rw [mapOp, if_neg (by omega), hc, hcv]

theorem exec_opMap_some (hc : s.argCh.toNat = c.val) (h : mapDuty (s.cfg.cal.get c) s.argFrac = some d) :
    exec .opMap s = .next { s with err := ⟨0, 0⟩, resDuty := d, resDutyWritten := true } := by
  rw [exec_opMap_channel hc, mapChannel_some (s := clearErr s) h]
  rfl

theorem exec_opMap_none (hc : s.argCh.toNat = c.val) (h : mapDuty (s.cfg.cal.get c) s.argFrac = none) :
    exec .opMap s = .next { s with err := ⟨4, 0x01#8 ++ s.argCh⟩ } := by
  have hch : BitVec.ofNat 8 c.val = s.argCh := by rw [← hc, BitVec.ofNat_toNat, BitVec.setWidth_eq]
  rw [exec_opMap_channel hc, mapChannel_none (s := clearErr s) h, hch]
  rfl

/-- No channel of the block: ERR only, whatever the fraction (41_duty_mapper.md R183). -/
theorem exec_opMap_badChannel (hc : 15 < s.argCh.toNat) :
    exec .opMap s = .next { s with err := ⟨4, 0x00#8 ++ s.argCh⟩ } := by
  change (mapOp s.argCh s.argFrac (clearErr s)).outcome = _
  rw [mapOp, if_pos hc]
  rfl

end map

/-- Settles O23: the count is a rounded quotient of naturals, and the floor of the same quotient plus one half. -/
theorem mapComputesTheDuty : Obligations.MapComputesTheDuty := by
  intro s c x hw hc hv h0 h1 e f span
  obtain ⟨n, rfl⟩ := Int.eq_ofNat_of_zero_le h0
  have hn : n ≤ f32One := mod_cast h1
  have hx : fractionOf s.argFrac = some n := by
    rw [fractionOf_finite hv, if_pos ⟨h0, h1⟩]
    rfl
  rw [exec_opMap_some hc (mapDuty_of_fraction hx), mapCount_eq_floor hn (wf_cal hw c).le]
  rfl

/-- Settles O24: the channel check, then the range check read off the fields of the word. -/
theorem mapRejectsOutOfRange : Obligations.MapRejectsOutOfRange := by
  refine fun s => ⟨exec_opMap_badChannel, fun hc => ?_⟩
  obtain ⟨c, hcv⟩ : ∃ c : Channel, s.argCh.toNat = c.val := ⟨⟨_, Nat.lt_succ_of_le hc⟩, rfl⟩
  rw [← fractionOf_isSome_iff, ← mapDuty_isSome (s.cfg.cal.get c)]
  refine ⟨fun hs => ?_, fun hs => ?_⟩
  · obtain ⟨d, hd⟩ := Option.isSome_iff_exists.1 hs
    exact ⟨d, exec_opMap_some hcv hd⟩
  · exact exec_opMap_none hcv (Option.not_isSome_iff_eq_none.1 hs)

/-! ### The laws of MAP -/

section laws
variable {entry : CalEntry} {w w' : F32} {d d' : Duty}

theorem fractionOf_zeroWord : fractionOf zeroWord = some 0 := by decide
theorem fractionOf_oneWord : fractionOf oneWord = some f32One := by decide
theorem fractionOf_neutralWord : fractionOf neutralWord = some (2 ^ 148) := by decide

theorem mapDuty_zeroWord (hm : entry.minCount.toNat ≤ entry.maxCount.toNat) :
    mapDuty entry zeroWord = some (zeroDuty entry) := by
  rw [mapDuty_of_fraction fractionOf_zeroWord, zeroDuty]
  cases hi : entry.invert with
  | false =>
    rw [mapCount_of_zeroUnits (by simp [mapUnits, hi])]
    simp
  | true =>
    rw [mapCount_of_allUnits (by simp [mapUnits, hi]) hm]
    simp

theorem mapDuty_oneWord (hm : entry.minCount.toNat ≤ entry.maxCount.toNat) :
    mapDuty entry oneWord = some (fullDuty entry) := by
  rw [mapDuty_of_fraction fractionOf_oneWord, fullDuty]
  cases hi : entry.invert with
  | false =>
    rw [mapCount_of_allUnits (by simp [mapUnits, hi]) hm]
    simp
  | true =>
    rw [mapCount_of_zeroUnits (by simp [mapUnits, hi])]
    simp

/-- One half is what is left of 1 after it, so that NEUTRAL does not depend on the direction
(41_duty_mapper.md R185(c)). -/
theorem mapDuty_neutralWord (entry : CalEntry) : mapDuty entry neutralWord = some (neutralDuty entry) := by
  have hunits : mapUnits entry (2 ^ 148) = 2 ^ 148 := by
    rw [mapUnits]
    split <;> rfl
  rw [mapDuty_of_fraction fractionOf_neutralWord, mapCount_eq, hunits, roundQuot_half, neutralDuty]

theorem mapDuty_range (hm : entry.minCount.toNat ≤ entry.maxCount.toNat) (h : mapDuty entry w = some d) :
    entry.minCount.toNat ≤ d.toNat ∧ d.toNat ≤ entry.maxCount.toNat := by
  obtain ⟨x, -, hx, hd⟩ := mapDuty_some hm h
  exact hd ▸ ⟨mapCount_ge_min entry x, mapCount_le_max hx hm⟩

/-- MAP goes with the fraction, or against it where the entry is inverted (41_duty_mapper.md R185). -/
theorem mapDuty_monotone {x x' : Int} (hm : entry.minCount.toNat ≤ entry.maxCount.toNat)
    (h : mapDuty entry w = some d) (h' : mapDuty entry w' = some d')
    (hv : f32Value w = .finite x) (hv' : f32Value w' = .finite x') (hx : x ≤ x') :
    (entry.invert = false → d.toNat ≤ d'.toNat) ∧ (entry.invert = true → d'.toNat ≤ d.toNat) := by
  obtain ⟨n, hn, -, hd⟩ := mapDuty_some hm h
  obtain ⟨n', hn', -, hd'⟩ := mapDuty_some hm h'
  have hle : n ≤ n' := by
    rw [FloatValue.finite.inj (hv.symm.trans hn), FloatValue.finite.inj (hv'.symm.trans hn')] at hx
    exact mod_cast hx
  rw [hd, hd']
  refine ⟨fun hi => mapCount_mono ?_, fun hi => mapCount_mono ?_⟩
  · simpa [mapUnits, hi] using hle
  · simpa only [mapUnits, hi, if_true] using Nat.sub_le_sub_left hle f32One

end laws

/-- Settles O25: the endpoints and NEUTRAL by the units scaled, the range and the order by monotone rounding. -/
theorem mapLawsHold : Obligations.MapLawsHold := by
  intro e hlt
  refine ⟨mapDuty_zeroWord hlt.le, mapDuty_oneWord hlt.le, mapDuty_neutralWord e, fun _ _ => mapDuty_range hlt.le,
    fun _ _ _ _ _ _ => mapDuty_monotone hlt.le, fun w x hv h0 h1 => ?_⟩
  exact ⟨_, mapDuty_of_fraction ((fractionOf_finite hv).trans (if_pos ⟨h0, h1⟩))⟩

end Sys2Proof.Machine
end

section
/-! The actions of the handshake (42_motor_calibration.md R203 to R206): what each does with each answer of the bus
and of the lines, what a list of them comes to, and that T1 to T4 perform the listed ones and otherwise move MCS
alone. -/
namespace Sys2Proof.Machine

/-! ### The answers of the lines -/

section answers
variable {e e' : Env}

/-- Of `m + n` good GPIO actions, the first `m` and the `n` after them are good. -/
theorem gpioOkFor_add (m n : Nat) :
    e.gpioOkFor (m + n) = true ↔ e.gpioOkFor m = true ∧ (e.dropGpio m).gpioOkFor n = true := by
  induction m generalizing e with
  | zero => simp [Env.gpioOkFor]
  | succ m ih =>
    rw [Nat.succ_add, gpioOkFor_succ, gpioOkFor_succ, ih, dropGpio_dropGpio, Nat.add_comm 1 m, and_assoc]

/-- Whether releases return rests on the answers to releases alone. -/
theorem releasesFor_congr (n : Nat) (h : e.release = e'.release) : e.releasesFor n = e'.releasesFor n := by
  induction n generalizing e e' with
  | zero => rfl
  | succ n ih => rw [Env.releasesFor, Env.releasesFor, h, ih (e' := e'.dropRelease 1) (by simp [h])]

theorem releaseHangsAt_congr (n : Nat) (h : e.release = e'.release) :
    e.releaseHangsAt n = e'.releaseHangsAt n := by
  rw [Env.releaseHangsAt, Env.releaseHangsAt, releasesFor_congr n h, h]

theorem responsive_dropBus (h : e.responsive = true) (n : Nat) : (e.dropBus n).responsive = true := by
  obtain ⟨hbus, hrest⟩ := responsive_iff.1 h
  exact responsive_iff.2 ⟨all_drop hbus n, hrest⟩

theorem responsive_dropGpio (h : e.responsive = true) (n : Nat) : (e.dropGpio n).responsive = true := by
  obtain ⟨hbus, hgpio, hrest⟩ := responsive_iff.1 h
  exact responsive_iff.2 ⟨hbus, all_drop hgpio n, hrest⟩

end answers

/-! ### One action -/

/-- The model's meaning of an action of the handshake. -/
def CalAction.run : CalAction → Act
  | .request t l => gpioRequest t l
  | .drive t l high => gpioWrite t l high
  | .write r v => regWrite r v
  | .wait w => delay w

/-- What the action raises where it fails (42_motor_calibration.md R208, R209). -/
def CalAction.raise (a : CalAction) : Raise :=
  ⟨if a.isWrite then .busTransfer else .calibrationAborted, a.err.info⟩

/-- A line after the action (10_state.md R30, 20_memory.md R76). -/
def CalAction.line (l : Line) (g : GpioLine) : CalAction → GpioLine
  | .request _ l' => if l' = l then ⟨true, .unknown⟩ else g
  | .drive _ l' high => if l' = l then { g with level := if high then .high else .low } else g
  | .write _ _ => g
  | .wait _ => g

/-- A line after the action failed: a refused request leaves its level unknown (log 24). -/
def CalAction.failedLine (l : Line) (g : GpioLine) : CalAction → GpioLine
  | .request _ l' => if l' = l then ⟨g.held, .unknown⟩ else g
  | .drive _ _ _ => g
  | .write _ _ => g
  | .wait _ => g

/-- A register write is one that touches neither PRESCALE nor MODE1. -/
def CalAction.Plain : CalAction → Prop
  | .request _ _ => True
  | .drive _ _ _ => True
  | .write r _ => r ≠ regPrescale ∧ r ≠ regMode1
  | .wait _ => True

/-- The answers left after these actions. -/
def envAfter (xs : List CalAction) (e : Env) : Env :=
  (e.dropBus (xs.countP CalAction.isWrite)).dropGpio (xs.countP CalAction.isGpio)

/-- Each of these actions answers `ok`. -/
def AnswersOk (xs : List CalAction) (e : Env) : Prop :=
  e.gpioOkFor (xs.countP CalAction.isGpio) = true ∧ e.busOkFor (xs.countP CalAction.isWrite) = true

/-- The action answers `fail`, `n` bytes of a register write having reached the chip. -/
def CalAction.Fails (a : CalAction) (n : Nat) (e : Env) : Prop :=
  (a.isGpio = true ∧ e.gpio.head = .got false) ∨ (a.isWrite = true ∧ e.bus.head = .got (.fail n))

/-- The action never answers. -/
def CalAction.Hangs (a : CalAction) (e : Env) : Prop :=
  (a.isGpio = true ∧ e.gpio.head = .hang) ∨ (a.isWrite = true ∧ e.bus.head = .hang)

/-- The state after these actions, each answered `ok`. -/
def afterActions (xs : List CalAction) (s : State) : State :=
  { s with
    env := envAfter xs s.env
    tr := s.tr ++ xs.map (CalAction.event s.cfg true)
    chip := { s.chip with regs := xs.foldl CalAction.regs s.chip.regs }
    gpioSetting := xs.foldl (CalAction.line .setting) s.gpioSetting
    gpioPower := xs.foldl (CalAction.line .power) s.gpioPower }

/-- The state after the action failed, `n` bytes of a register write having reached the chip (20_memory.md R62). -/
def afterFailure (a : CalAction) (n : Nat) (s : State) : State :=
  { s with
    err := a.err
    env := envAfter [a] s.env
    tr := s.tr ++ [a.event s.cfg false]
    chip := { s.chip with regs := if 2 ≤ n then a.regs s.chip.regs else s.chip.regs }
    gpioSetting := a.failedLine .setting s.gpioSetting
    gpioPower := a.failedLine .power s.gpioPower }

section action
variable {a : CalAction} {s : State} {e : Env} {n : Nat} {xs ys : List CalAction}

@[simp] theorem envAfter_nil : envAfter [] e = e := by simp [envAfter]

@[simp] theorem envAfter_release : (envAfter xs e).release = e.release := rfl

theorem envAfter_append : envAfter (xs ++ ys) e = envAfter ys (envAfter xs e) := by
  simp [envAfter, dropGpio_dropBus]

theorem answersOk_nil : AnswersOk [] e := ⟨rfl, rfl⟩

/-- Actions one after another are good where the first are, and the others with the answers left. -/
theorem answersOk_append :
    AnswersOk (xs ++ ys) e ↔ AnswersOk xs e ∧ AnswersOk ys (envAfter xs e) := by
  have hgpio : (envAfter xs e).gpioOkFor (ys.countP CalAction.isGpio) =
      (e.dropGpio (xs.countP CalAction.isGpio)).gpioOkFor (ys.countP CalAction.isGpio) :=
    gpioOkFor_congr _ rfl
  have hbus : (envAfter xs e).busOkFor (ys.countP CalAction.isWrite) =
      (e.dropBus (xs.countP CalAction.isWrite)).busOkFor (ys.countP CalAction.isWrite) :=
    busOkFor_congr _ rfl
  simp only [AnswersOk, List.countP_append, gpioOkFor_add, busOkFor_add, hgpio, hbus]
  tauto

@[simp] theorem afterActions_nil : afterActions [] s = s := by simp [afterActions]

theorem afterActions_append : afterActions (xs ++ ys) s = afterActions ys (afterActions xs s) := by
  simp [afterActions, envAfter_append]

theorem gpioHead_of_ok (h : AnswersOk [a] e) (hg : a.isGpio = true) : e.gpio.head = .got true := by
  simpa [AnswersOk, hg, Env.gpioOkFor] using h.1

theorem busHead_of_ok (h : AnswersOk [a] e) (hw : a.isWrite = true) : e.bus.head = .got .ok := by
  simpa [AnswersOk, hw, Env.busOkFor] using h.2

/-- An action answers `ok`, answers `fail`, or never answers. -/
theorem CalAction.answer_cases (a : CalAction) (e : Env) :
    AnswersOk [a] e ∨ (∃ n, a.Fails n e) ∨ a.Hangs e := by
  have hgpio : a.isGpio = true → a.isWrite = false → AnswersOk [a] e ∨ (∃ n, a.Fails n e) ∨ a.Hangs e := by
    intro hg hw
    cases hr : e.gpio.head with
    | hang => exact .inr (.inr (.inl ⟨hg, hr⟩))
    | got ok =>
      cases ok with
      | false => exact .inr (.inl ⟨0, .inl ⟨hg, hr⟩⟩)
      | true => exact .inl (by simp [AnswersOk, hg, hw, Env.gpioOkFor, Env.busOkFor, hr])
  cases a with
  | request t l => exact hgpio rfl rfl
  | drive t l high => exact hgpio rfl rfl
  | wait w => exact .inl answersOk_nil
  | write r v =>
    cases hr : e.bus.head with
    | hang => exact .inr (.inr (.inr ⟨rfl, hr⟩))
    | got r =>
      cases r with
      | ok => exact .inl ⟨rfl, busOkFor_one.2 hr⟩
      | fail n => exact .inr (.inl ⟨n, .inr ⟨rfl, hr⟩⟩)

/-- An action answered `ok` leaves its event, and the line or the register it is about. -/
theorem CalAction.run_ok (hw : s.cfg.wf = true) (ha : a.Plain) (h : AnswersOk [a] s.env) :
    a.run s = .done () (afterActions [a] s) := by
  have hgpio := gpioHead_of_ok h
  have hbus := busHead_of_ok h
  cases a with
  | request t l => rw [run, gpioRequest_ok (hgpio rfl)]; cases l <;> rfl
  | drive t l high => rw [run, gpioWrite_ok (hgpio rfl)]; cases l <;> rfl
  | write r v =>
    obtain ⟨hp, hm⟩ := ha
    rw [run, regWrite_ok hw hp (hbus rfl), withReg_other hm]
    rfl
  | wait w => rfl

/-- A GPIO action leaves the chip alone. -/
theorem CalAction.regs_of_gpio (h : a.isGpio = true) (m : Memory) : a.regs m = m := by
  cases a with
  | write r v => cases h
  | _ => rfl

/-- An action that fails raises its error; of what it is about, a register holds the byte only if both bytes had
arrived, and a refused line's level is unknown. -/
theorem CalAction.run_failed (hw : s.cfg.wf = true) (ha : a.Plain) (h : a.Fails n s.env) :
    a.run s = .raised a.raise (afterFailure a n s) := by
  rcases h with ⟨hg, h⟩ | ⟨hb, h⟩
  · rw [afterFailure, regs_of_gpio hg, ite_self]
    cases a with
    | request t l => rw [run, gpioRequest_fail h]; cases l <;> rfl
    | drive t l high => rw [run, gpioWrite_fail h]; rfl
    | write r v => cases hg
    | wait w => cases hg
  · cases a with
    | request t l => cases hb
    | drive t l high => cases hb
    | write r v =>
      obtain ⟨hp, hm⟩ := ha
      rw [run, regWrite_fail hw hp h, withReg_other hm, afterFailure]
      by_cases hn : 2 ≤ n
      · simp only [if_pos hn]; rfl
      · simp only [if_neg hn]; rfl
    | wait w => cases hb

/-- An action that never answers stops the machine, whatever else the state holds (70_reset_and_hazards.md R333). -/
theorem CalAction.run_hangs (h : a.Hangs s.env) :
    a.run s = .stopped (.blocked (if a.isWrite then .bus else .gpio)) := by
  rcases h with ⟨hg, h⟩ | ⟨hb, h⟩
  · cases a with
    | request t l => simp [run, gpioRequest, gpioAnswer, h, isWrite]
    | drive t l high => simp [run, gpioWrite, gpioAnswer, h, isWrite]
    | write r v => cases hg
    | wait w => cases hg
  · cases a with
    | request t l => cases hb
    | drive t l high => cases hb
    | write r v => simp [run, regWrite, busWrite, h, isWrite]
    | wait w => cases hb

/-- A failed action's ERR is what it raises (60_exceptions.md R270). -/
theorem CalAction.err_of_fails (h : a.Fails n e) : a.err = ⟨errCode a.raise.kind, a.raise.info⟩ := by
  rcases h with ⟨hg, -⟩ | ⟨hb, -⟩
  · cases a with
    | request t l => rfl
    | drive t l high => rfl
    | write r v => cases hg
    | wait w => cases hg
  · cases a with
    | request t l => cases hb
    | drive t l high => cases hb
    | write r v => rfl
    | wait w => cases hb

end action

/-! ### One action after another -/

/-- The first of these actions to fail is `a`, after those of `before` answered `ok`. -/
structure FirstFailure (xs before : List CalAction) (a : CalAction) (n : Nat) (e : Env) : Prop where
  split : ∃ rest, xs = before ++ a :: rest
  beforeOk : AnswersOk before e
  fails : a.Fails n (envAfter before e)

section actions
variable {a : CalAction} {s : State} {e : Env} {n : Nat} {xs before : List CalAction}

/-- Where every answer comes, the actions all answer `ok`, or one of them is the first to fail. -/
theorem answersOk_or_firstFailure (hr : e.responsive = true) (xs : List CalAction) :
    AnswersOk xs e ∨ ∃ before a n, FirstFailure xs before a n e := by
  induction xs generalizing e with
  | nil => exact .inl answersOk_nil
  | cons x rest ih =>
    rcases x.answer_cases e with hok | ⟨n, hf⟩ | hh
    · have hrest : (envAfter [x] e).responsive = true := responsive_dropGpio (responsive_dropBus hr _) _
      rcases ih hrest with hall | ⟨before, a, n, ⟨tl, rfl⟩, hbefore, hfails⟩
      · exact .inl (answersOk_append (xs := [x]).2 ⟨hok, hall⟩)
      · refine .inr ⟨x :: before, a, n, ⟨tl, rfl⟩, answersOk_append (xs := [x]).2 ⟨hok, hbefore⟩, ?_⟩
        rwa [← List.singleton_append, envAfter_append]
    · exact .inr ⟨[], x, n, ⟨rest, rfl⟩, answersOk_nil, by rwa [envAfter_nil]⟩
    · obtain ⟨g, hg⟩ := responsive_gpio hr
      obtain ⟨b, hb⟩ := responsive_bus hr
      rcases hh with ⟨-, hh⟩ | ⟨-, hh⟩
      · rw [hg] at hh; cases hh
      · rw [hb] at hh; cases hh

/-- Actions that all answer `ok`. -/
theorem runActions_ok (hw : s.cfg.wf = true) (hxs : ∀ x ∈ xs, x.Plain) (h : AnswersOk xs s.env) :
    runSteps (xs.map CalAction.run) s = .done () (afterActions xs s) := by
  induction xs generalizing s with
  | nil => rw [afterActions_nil]; rfl
  | cons x rest ih =>
    obtain ⟨hx, hrest⟩ := answersOk_append (xs := [x]).1 h
    rw [List.map_cons, runSteps_cons, x.run_ok hw (hxs x List.mem_cons_self) hx, andThen_done,
      ih (by exact hw) (fun y hy => hxs y (List.mem_cons_of_mem x hy)) hrest, ← afterActions_append,
      List.singleton_append]

/-- Actions of which one fails: those before it stand, none after it is performed. -/
theorem runActions_failed (hw : s.cfg.wf = true) (hxs : ∀ x ∈ xs, x.Plain)
    (h : FirstFailure xs before a n s.env) :
    runSteps (xs.map CalAction.run) s = .raised a.raise (afterFailure a n (afterActions before s)) := by
  obtain ⟨⟨rest, rfl⟩, hbefore, hfails⟩ := h
  rw [List.map_append, runSteps_append,
    runActions_ok hw (fun x hx => hxs x (List.mem_append_left _ hx)) hbefore, andThen_done, List.map_cons,
    runSteps_cons, CalAction.run_failed (by exact hw) (hxs a (by simp)) hfails, andThen_raised]

end actions

/-! ### What differs in MCS alone -/

/-- Two states under a configuration that differ in MCS alone. -/
structure SameButMcs (cfg : Config) (s t : State) : Prop where
  cfg : t.cfg = cfg
  eq : s = { t with mcs := s.mcs }

/-- Two answers that differ in the state's MCS alone. -/
def Res.Agrees (cfg : Config) : Res Unit → Res Unit → Prop
  | .done _ s, .done _ t => SameButMcs cfg s t
  | .raised e s, .raised e' t => e = e' ∧ SameButMcs cfg s t
  | .stopped f, .stopped f' => f = f'
  | _, _ => False

/-- Under a configuration these steps perform these actions and otherwise write MCS alone. -/
def Performs (cfg : Config) (as : List Act) (xs : List CalAction) : Prop :=
  ∀ s t, SameButMcs cfg s t → (runSteps as s).Agrees cfg (runSteps (xs.map CalAction.run) t)

section performs
variable {cfg : Config} {as bs : List Act} {xs ys : List CalAction} {a : CalAction} {d : Duty} {w : F32}

theorem SameButMcs.refl (s : State) : SameButMcs s.cfg s s := ⟨rfl, rfl⟩

theorem agrees_andThen {r r' : Res Unit} {f g : Unit → State → Res Unit} (h : r.Agrees cfg r')
    (hf : ∀ s t, SameButMcs cfg s t → (f () s).Agrees cfg (g () t)) :
    (r.andThen f).Agrees cfg (r'.andThen g) := by
  cases r with
  | done u s =>
    cases r' with
    | done u' t => exact hf s t h
    | raised e t => exact h.elim
    | stopped x => exact h.elim
  | raised e s =>
    cases r' with
    | done u t => exact h.elim
    | raised e' t => exact h
    | stopped x => exact h.elim
  | stopped x =>
    cases r' with
    | done u t => exact h.elim
    | raised e t => exact h.elim
    | stopped x' => exact h

theorem Performs.append (h : Performs cfg as xs) (h' : Performs cfg bs ys) :
    Performs cfg (as ++ bs) (xs ++ ys) := by
  intro s t hst
  rw [runSteps_append, List.map_append, runSteps_append]
  exact agrees_andThen (h s t hst) h'

theorem performs_nil : Performs cfg [] [] := fun _ _ h => h

theorem performs_mark (m : Mcs) : Performs cfg [setMcs m] [] := by
  intro s t ⟨hcfg, heq⟩
  exact ⟨hcfg, by rw [heq]⟩

/-- No action looks at MCS or writes it. -/
theorem performs_action (hw : cfg.wf = true) (ha : a.Plain) : Performs cfg [a.run] [a] := by
  intro s t ⟨hcfg, heq⟩
  have henv : s.env = t.env := by rw [heq]
  have hscfg : s.cfg = cfg := by rw [heq]; exact hcfg
  subst hcfg
  have hws : s.cfg.wf = true := hscfg ▸ hw
  rw [List.map_singleton, runSteps_cons, runSteps_cons]
  refine agrees_andThen ?_ performs_nil
  rcases a.answer_cases t.env with hok | ⟨n, hf⟩ | hh
  · rw [a.run_ok hws ha (henv ▸ hok), a.run_ok hw ha hok, heq]
    exact ⟨rfl, rfl⟩
  · rw [a.run_failed hws ha (henv ▸ hf), a.run_failed hw ha hf, heq]
    exact ⟨rfl, rfl, rfl⟩
  · rw [a.run_hangs (henv ▸ hh), a.run_hangs hh]
    rfl

theorem performs_actions (hw : cfg.wf = true) (hxs : ∀ x ∈ xs, x.Plain) :
    Performs cfg (xs.map CalAction.run) xs := by
  induction xs with
  | nil => exact performs_nil
  | cons x rest ih =>
    exact (performs_action hw (hxs x List.mem_cons_self)).append
      (ih fun y hy => hxs y (List.mem_cons_of_mem x hy))

/-- The writes of the motor channel are of edge registers. -/
theorem motorActions_plain (hw : cfg.wf = true) (d : Duty) : ∀ x ∈ motorActions cfg d, x.Plain := by
  intro x hx
  obtain ⟨edge, -, rfl⟩ := List.mem_map.1 hx
  exact ⟨edgeAddr_ne_prescale hw _ edge, edgeAddr_ne_mode1 hw _ edge⟩

theorem andThen_end (r : Res Unit) : (r.andThen fun _ s => runSteps [] s) = r := by
  cases r <;> rfl

/-- MotorWrite of an accepted fraction is the four writes of its duty (42_motor_calibration.md R201). -/
theorem performs_motorWrite (hw : cfg.wf = true) (hd : mapDuty (cfg.cal.get cfg.motorCh) w = some d) :
    Performs cfg [motorWrite w] (motorActions cfg d) := by
  intro s t hst
  have hcfg : s.cfg = cfg := by rw [hst.eq]; exact hst.cfg
  have hrun : runSteps [motorWrite w] s = runSteps ((motorActions cfg d).map CalAction.run) s := by
    subst hcfg
    rw [runSteps_cons, andThen_end, motorWrite, mapChannel_some hd, andThen_done, writeChannel, writeEdges,
      motorActions, List.map_map]
    rfl
  rw [hrun]
  exact performs_actions hw (motorActions_plain hw d) s t hst

end performs

/-! ### T1 to T4 -/

/-- The power line's two actions in T1, where it exists (42_motor_calibration.md R203). -/
def powerActions (cfg : Config) : List CalAction :=
  if cfg.powerLinePresent then [.request 1 .power, .drive 1 .power true] else []

/-- What T1 to T4 do once the setting line is held (42_motor_calibration.md R203 to R206). -/
def settingActions (cfg : Config) : List CalAction :=
  [.drive 1 .setting true, .wait .hold, .drive 2 .setting false] ++
    motorActions cfg (neutralDuty (cfg.cal.get cfg.motorCh)) ++ pulseActions 2 ++
    motorActions cfg (fullDuty (cfg.cal.get cfg.motorCh)) ++ pulseActions 3 ++
    motorActions cfg (zeroDuty (cfg.cal.get cfg.motorCh)) ++ pulseActions 4

section transitions
variable {cfg : Config}

theorem calActions_eq (cfg : Config) :
    calActions cfg = powerActions cfg ++ .request 1 .setting :: settingActions cfg := by
  simp [calActions, powerActions, settingActions]

theorem calActions_plain (hw : cfg.wf = true) : ∀ x ∈ calActions cfg, x.Plain := by
  intro x hx
  simp only [calActions, List.mem_append, or_assoc] at hx
  have plain : ∀ {xs : List CalAction}, (∀ y ∈ xs, y.isWrite = false) → x ∈ xs → x.Plain := by
    intro xs hxs hmem
    cases x with
    | write r v => cases hxs _ hmem
    | _ => trivial
  rcases hx with hx | hx | hx | hx | hx | hx | hx | hx
  · refine plain (fun y hy => ?_) hx
    split at hy
    · revert y; decide
    · cases hy
  · exact plain (by decide) hx
  · exact motorActions_plain hw _ x hx
  · exact plain (by decide) hx
  · exact motorActions_plain hw _ x hx
  · exact plain (by decide) hx
  · exact motorActions_plain hw _ x hx
  · exact plain (by decide) hx

theorem performs_pulse (hw : cfg.wf = true) (n : Byte) : Performs cfg (pulse n) (pulseActions n) :=
  performs_actions (xs := pulseActions n) hw fun x hx => by
    simp only [pulseActions, List.mem_cons, List.not_mem_nil, or_false] at hx
    rcases hx with rfl | rfl | rfl | rfl <;> trivial

/-- T1 asserts the lines and holds (42_motor_calibration.md R203). -/
theorem performs_calT1 (hw : cfg.wf = true) : Performs cfg (calT1 cfg)
    (powerActions cfg ++ [.request 1 .setting, .drive 1 .setting true, .wait .hold]) := by
  have hpower : Performs cfg
      (if cfg.powerLinePresent then [gpioRequest 1 .power, gpioWrite 1 .power true] else [])
      (powerActions cfg) := by
    rw [powerActions]
    split
    · exact (performs_action (a := .request 1 .power) hw trivial).append
        (performs_action (a := .drive 1 .power true) hw trivial)
    · exact performs_nil
  have hsetting := ((performs_action (a := .request 1 .setting) hw trivial).append
    (performs_action (a := .drive 1 .setting true) hw trivial)).append
    (performs_action (a := .wait .hold) hw trivial)
  exact hpower.append (hsetting.append (performs_mark (.inProgress .powerOn)))

/-- T2 sets the neutral position (42_motor_calibration.md R204). -/
theorem performs_calT2 (hw : cfg.wf = true) : Performs cfg calT2
    (.drive 2 .setting false :: motorActions cfg (neutralDuty (cfg.cal.get cfg.motorCh)) ++ pulseActions 2) := by
  have h := ((performs_action (a := .drive 2 .setting false) hw trivial).append
    (performs_motorWrite hw (mapDuty_neutralWord _))).append
    ((performs_pulse hw 2).append (performs_mark (.inProgress .neutralSet)))
  simpa [calT2, CalAction.run] using h

/-- T3 sets the full-throttle position (42_motor_calibration.md R205). -/
theorem performs_calT3 (hw : cfg.wf = true) : Performs cfg calT3
    (motorActions cfg (fullDuty (cfg.cal.get cfg.motorCh)) ++ pulseActions 3) := by
  have h := (performs_motorWrite hw (mapDuty_oneWord (wf_cal hw cfg.motorCh).le)).append
    ((performs_pulse hw 3).append (performs_mark (.inProgress .maxSet)))
  simpa [calT3] using h

/-- T4 sets the zero-throttle position (42_motor_calibration.md R206). -/
theorem performs_calT4 (hw : cfg.wf = true) : Performs cfg calT4
    (motorActions cfg (zeroDuty (cfg.cal.get cfg.motorCh)) ++ pulseActions 4) := by
  have h := (performs_motorWrite hw (mapDuty_zeroWord (wf_cal hw cfg.motorCh).le)).append
    ((performs_pulse hw 4).append (performs_mark (.inProgress .minSet)))
  simpa [calT4] using h

/-- T1 to T4 perform the handshake's actions, in the order listed. -/
theorem performs_calActions (hw : cfg.wf = true) :
    Performs cfg (calT1 cfg ++ calT2 ++ calT3 ++ calT4) (calActions cfg) := by
  have h := (((performs_calT1 hw).append (performs_calT2 hw)).append (performs_calT3 hw)).append
    (performs_calT4 hw)
  simpa [calActions_eq, settingActions] using h

end transitions

end Sys2Proof.Machine
end

section
/-! CAL (42_motor_calibration.md): without a handshake, with one in which every action succeeds, and with one that is
aborted at whichever action fails. -/
namespace Sys2Proof.Machine

/-! ### CAL without a handshake -/

/-- Settles O36: CAL asks for the handshake before it looks at the handle. -/
theorem calWithoutHandshakeTrustsAtOnce : Obligations.CalWithoutHandshakeTrustsAtOnce := by
  intro s hr hm
  have hcal : calOp (clearErr s) = .done () { clearErr s with calAttempted := true, mcs := .done } := by
    rw [calOp, if_neg (by exact hm), if_neg (by simp [clearErr, hr])]
  rw [exec_opCal, hcal]
  exact ⟨rfl, rfl⟩

/-- Settles O37: CAL looks at MCS before anything else. -/
theorem calWhenDoneDoesNothing : Obligations.CalWhenDoneDoesNothing := by
  intro s hm
  have hcal : calOp (clearErr s) = .done () (clearErr s) := if_pos hm
  rw [exec_opCal, hcal]
  rfl

/-! ### The release of the lines, and the abort -/

/-- The releases of T5 in TR (42_motor_calibration.md R207). -/
def calReleaseEvents (cfg : Config) : List Event :=
  if cfg.gpioTransient then
    .gpioRel .setting :: (if cfg.powerLinePresent then [.gpioRel .power] else [])
  else []

/-- A line after T5 (42_motor_calibration.md R207). -/
def lineAfterT5 (returned : Bool) (g : GpioLine) : GpioLine := if returned then ⟨false, .unknown⟩ else g

theorem lineAfterT5_setting (cfg : Config) :
    lineAfterT5 cfg.gpioTransient ⟨true, .low⟩ = settingAfterCal cfg := rfl

theorem lineAfterT5_power (cfg : Config) (g : GpioLine) :
    lineAfterT5 (cfg.gpioTransient && cfg.powerLinePresent) (if cfg.powerLinePresent then ⟨true, .high⟩ else g) =
      powerAfterCal cfg g := by
  cases ht : cfg.gpioTransient <;> cases hp : cfg.powerLinePresent <;> simp [lineAfterT5, powerAfterCal, ht, hp]

section endings
variable {s : State} {e : Raise} {p : Phase} {n : Nat}

/-- T5 gives the lines back where they are transient, and ends at Done (42_motor_calibration.md R207). -/
theorem calT5_returns (h : s.env.releasesFor (calReleases s.cfg) = true) :
    runSteps (calT5 s.cfg) s = .done () { s with
      mcs := .done
      gpioSetting := lineAfterT5 s.cfg.gpioTransient s.gpioSetting
      gpioPower := lineAfterT5 (s.cfg.gpioTransient && s.cfg.powerLinePresent) s.gpioPower
      tr := s.tr ++ calReleaseEvents s.cfg
      env := s.env.dropRelease (calReleases s.cfg) } := by
  cases htrans : s.cfg.gpioTransient with
  | false => simp [calT5, calReleases, calReleaseEvents, lineAfterT5, htrans]
  | true =>
    cases hpower : s.cfg.powerLinePresent with
    | false =>
      simp only [calReleases, htrans, hpower, if_true, Bool.false_eq_true, if_false, releasesFor_succ] at h
      simp [calT5, calReleases, calReleaseEvents, lineAfterT5, htrans, hpower, gpioRelease_returns h.1,
        markReleased, setGpioLine, emit]
    | true =>
      simp only [calReleases, htrans, hpower, if_true, releasesFor_succ] at h
      obtain ⟨h1, h2, -⟩ := h
      simp only [calT5, htrans, hpower, if_true, List.cons_append, List.nil_append, runSteps_cons,
        gpioRelease_returns h1, andThen_done]
      rw [gpioRelease_returns (by exact h2)]
      simp [calReleases, calReleaseEvents, lineAfterT5, htrans, hpower, markReleased, setGpioLine, emit]

@[simp] theorem releasedLine_held (g : GpioLine) : (releasedLine g).held = false := by
  unfold releasedLine
  split
  · rfl
  · simpa using ‹¬g.held = true›

/-- An abort whose releases return (42_motor_calibration.md R208). -/
theorem abortCal_returns (h : s.env.releasesFor (heldLines s) = true) :
    abortCal p e s = .raised e { s with
      err := ⟨errCode e.kind, e.info⟩
      mcs := .notStarted
      seq := { s.seq with phase := p }
      gpioSetting := releasedLine s.gpioSetting
      gpioPower := releasedLine s.gpioPower
      tr := s.tr ++ releaseEvents s ++ [.log .calAbort e.info]
      env := s.env.dropRelease (heldLines s) } := by
  rw [abortCal, releaseHeldLines_returns h]
  rfl

/-- An abort one of whose releases never returns (70_reset_and_hazards.md R333). -/
theorem abortCal_stuck (hn : n < heldLines s) (h : s.env.releaseHangsAt n = true) :
    abortCal p e s = .stopped (.blocked .gpio) := by
  rw [abortCal, releaseHeldLines_hangs hn h]
  rfl

end endings

/-! ### The handshake -/

/-- The state after a CAL in which every action succeeds (42_motor_calibration.md R203 to R207). -/
def afterCal (s : State) : State :=
  { s with
    calAttempted := true
    mcs := .done
    gpioSetting := settingAfterCal s.cfg
    gpioPower := powerAfterCal s.cfg s.gpioPower
    tr := s.tr ++ calEvents s.cfg
    chip := { s.chip with regs := calRegs s.cfg s.chip.regs }
    env := ((s.env.dropBus 12).dropGpio (calGpioActions s.cfg)).dropRelease (calReleases s.cfg) }

/-- The state in which the handshake begins (42_motor_calibration.md R202). -/
def calibrating (s : State) : State := setPhase .calibrating { s with calAttempted := true }

/-- The state in which a CAL comes to its abort: `a` has failed, after those of `before` (42_motor_calibration.md
R208). -/
def failedCal (before : List CalAction) (a : CalAction) (n : Nat) (s : State) : State :=
  afterFailure a n (afterActions before s)

/-- The same with MCS as the transitions before the failure left it. -/
def failedHandshake (before : List CalAction) (a : CalAction) (n : Nat) (m : Mcs) (s : State) : State :=
  { failedCal before a n s with mcs := m }

/-- The state after the abort (42_motor_calibration.md R208, R209). -/
def abortedCal (before : List CalAction) (a : CalAction) (n : Nat) (s : State) : State :=
  let failed := failedCal before a n s
  { failed with
    calAttempted := true
    mcs := .notStarted
    gpioSetting := releasedLine failed.gpioSetting
    gpioPower := releasedLine failed.gpioPower
    tr := failed.tr ++ releaseEvents failed ++ [.log .calAbort a.err.info]
    env := failed.env.dropRelease (heldLines failed) }

section counts
variable (cfg : Config) (m : Memory)

theorem calActions_countP_isWrite : (calActions cfg).countP CalAction.isWrite = 12 := by
  rw [calActions_eq, powerActions]
  split <;> rfl

theorem calActions_countP_isGpio : (calActions cfg).countP CalAction.isGpio = calGpioActions cfg := by
  rw [calActions_eq, powerActions, calGpioActions]
  split <;> rfl

theorem envAfter_calActions (e : Env) :
    envAfter (calActions cfg) e = (e.dropBus 12).dropGpio (calGpioActions cfg) := by
  rw [envAfter, calActions_countP_isWrite, calActions_countP_isGpio]

theorem answersOk_calActions (e : Env) : AnswersOk (calActions cfg) e ↔
    e.gpioOkFor (calGpioActions cfg) = true ∧ e.busOkFor 12 = true := by
  rw [AnswersOk, calActions_countP_isWrite, calActions_countP_isGpio]

theorem motorActions_regs (d : Duty) (m : Memory) :
    (motorActions cfg d).foldl CalAction.regs m = wrchRegs cfg cfg.motorCh d m := rfl

theorem calActions_regs : (calActions cfg).foldl CalAction.regs m = calRegs cfg m := by
  have hpulse : ∀ n m, (pulseActions n).foldl CalAction.regs m = m := fun _ _ => rfl
  have hpower : (powerActions cfg).foldl CalAction.regs m = m := by
    rw [powerActions]
    split <;> rfl
  simp only [calActions_eq, settingActions, List.foldl_append, List.foldl_cons, hpulse, motorActions_regs, hpower]
  rfl

theorem calEvents_eq :
    calEvents cfg = (calActions cfg).map (CalAction.event cfg true) ++ calReleaseEvents cfg := by
  have hmotor : ∀ d, (motorActions cfg d).map (CalAction.event cfg true) = wrchEvents cfg cfg.motorCh d :=
    fun _ => rfl
  have hpulse : ∀ n, (pulseActions n).map (CalAction.event cfg true) = pulseEvents := fun _ => rfl
  have hpower : (powerActions cfg).map (CalAction.event cfg true) =
      if cfg.powerLinePresent then [.gpioReq .power true, .gpioSet .power true true] else [] := by
    rw [powerActions]
    split <;> rfl
  simp [calActions_eq, settingActions, calEvents, calReleaseEvents, hmotor, hpulse, hpower, CalAction.event]

/-- The register writes of the motor channel leave the lines alone. -/
theorem motorActions_line (l : Line) (d : Duty) (g : GpioLine) :
    (motorActions cfg d).foldl (CalAction.line l) g = g := rfl

theorem calActions_settingLine (g : GpioLine) :
    (calActions cfg).foldl (CalAction.line .setting) g = ⟨true, .low⟩ := by
  simp [calActions_eq, settingActions, motorActions_line, pulseActions, CalAction.line]

theorem calActions_powerLine (g : GpioLine) : (calActions cfg).foldl (CalAction.line .power) g =
    if cfg.powerLinePresent then ⟨true, .high⟩ else g := by
  have hpower : (powerActions cfg).foldl (CalAction.line .power) g =
      if cfg.powerLinePresent then ⟨true, .high⟩ else g := by
    rw [powerActions]
    split <;> rfl
  simp [calActions_eq, settingActions, motorActions_line, pulseActions, CalAction.line, hpower]

end counts

section handshake
variable {s : State} {h : Handle} {before : List CalAction} {a : CalAction} {n : Nat}

theorem handshake_eq (cfg : Config) : handshake cfg = (calT1 cfg ++ calT2 ++ calT3 ++ calT4) ++ calT5 cfg := rfl

/-- The five transitions, every action of which succeeds. -/
theorem handshake_done (hw : s.cfg.wf = true) (hok : AnswersOk (calActions s.cfg) s.env)
    (hrel : s.env.releasesFor (calReleases s.cfg) = true) :
    runSteps (handshake s.cfg) s = .done () { afterCal s with calAttempted := s.calAttempted } := by
  have hperf := performs_calActions hw s s (.refl s)
  rw [runActions_ok hw (calActions_plain hw) hok] at hperf
  rw [handshake_eq, runSteps_append]
  cases hrun : runSteps (calT1 s.cfg ++ calT2 ++ calT3 ++ calT4) s with
  | stopped x => rw [hrun] at hperf; exact hperf.elim
  | raised e t => rw [hrun] at hperf; exact hperf.elim
  | done u t =>
    rw [hrun] at hperf
    have hcfg : t.cfg = s.cfg := by rw [hperf.eq]; exact hperf.cfg
    have hreturns : t.env.releasesFor (calReleases t.cfg) = true := by
      rw [hcfg, ← hrel]
      exact releasesFor_congr _ (by rw [hperf.eq]; rfl)
    rw [andThen_done, ← hcfg, calT5_returns hreturns, hperf.eq]
    simp only [afterActions, afterCal, envAfter_calActions, calActions_regs, calActions_settingLine,
      calActions_powerLine, calEvents_eq, List.append_assoc, lineAfterT5_setting, lineAfterT5_power]

/-- The five transitions, an action of which fails. -/
theorem handshake_failed (hw : s.cfg.wf = true) (hf : FirstFailure (calActions s.cfg) before a n s.env) :
    ∃ m, runSteps (handshake s.cfg) s = .raised a.raise (failedHandshake before a n m s) := by
  have hperf := performs_calActions hw s s (.refl s)
  rw [runActions_failed hw (calActions_plain hw) hf] at hperf
  rw [handshake_eq, runSteps_append]
  cases hrun : runSteps (calT1 s.cfg ++ calT2 ++ calT3 ++ calT4) s with
  | stopped x => rw [hrun] at hperf; exact hperf.elim
  | done u t => rw [hrun] at hperf; exact hperf.elim
  | raised e t =>
    rw [hrun] at hperf
    obtain ⟨rfl, hsame⟩ := hperf
    exact ⟨t.mcs, congrArg (Res.raised a.raise) hsame.eq⟩

/-- With a handle CAL makes the handshake, where one is required and not yet done (42_motor_calibration.md R202). -/
theorem calOp_handshake (hh : s.handle = some h) (hm : s.mcs ≠ .done) (hr : s.cfg.requiresHandshake = true) :
    calOp s = runHandshake { s with calAttempted := true } := by
  simp [calOp, hm, hr, hh]

/-- A handshake that is done ends in the phase it was entered from (42_motor_calibration.md R202). -/
theorem calOp_of_done {t : State} (hh : s.handle = some h) (hm : s.mcs ≠ .done)
    (hr : s.cfg.requiresHandshake = true)
    (hrun : runSteps (handshake s.cfg) (calibrating s) = .done () t) :
    calOp s = .done () (setPhase s.seq.phase t) := by
  have hrun' : runSteps (handshake s.cfg) (setPhase .calibrating { s with calAttempted := true }) = .done () t := hrun
  rw [calOp_handshake hh hm hr, runHandshake, hrun']

/-- A handshake that raises is aborted (42_motor_calibration.md R208, R209). -/
theorem calOp_of_raised {e : Raise} {t : State} (hh : s.handle = some h) (hm : s.mcs ≠ .done)
    (hr : s.cfg.requiresHandshake = true)
    (hrun : runSteps (handshake s.cfg) (calibrating s) = .raised e t) :
    calOp s = abortCal s.seq.phase e t := by
  have hrun' : runSteps (handshake s.cfg) (setPhase .calibrating { s with calAttempted := true }) = .raised e t :=
    hrun
  rw [calOp_handshake hh hm hr, runHandshake, hrun']

/-- CAL, every action of which succeeds (42_motor_calibration.md R202 to R207). -/
theorem calOp_done (hw : s.cfg.wf = true) (hh : s.handle = some h) (hm : s.mcs ≠ .done)
    (hr : s.cfg.requiresHandshake = true) (hok : AnswersOk (calActions s.cfg) s.env)
    (hrel : s.env.releasesFor (calReleases s.cfg) = true) : calOp s = .done () (afterCal s) := by
  rw [calOp_of_done hh hm hr (handshake_done (s := calibrating s) hw hok hrel)]
  rfl

/-- Which lines an abort releases, and whether the releases return, rests on the actions before it. -/
theorem heldLines_failedHandshake (m : Mcs) :
    heldLines (failedHandshake before a n m (calibrating s)) = heldLines (failedCal before a n s) := rfl

theorem release_failedHandshake (m : Mcs) :
    (failedHandshake before a n m (calibrating s)).env.release = s.env.release := rfl

/-- CAL, an action of which fails, whose releases return (42_motor_calibration.md R208, R209). -/
theorem calOp_aborted (hw : s.cfg.wf = true) (hh : s.handle = some h) (hm : s.mcs ≠ .done)
    (hr : s.cfg.requiresHandshake = true) (hf : FirstFailure (calActions s.cfg) before a n s.env)
    (hrel : s.env.releasesFor (heldLines (failedCal before a n s)) = true) :
    calOp s = .raised a.raise (abortedCal before a n s) := by
  obtain ⟨m, hrun⟩ := handshake_failed (s := calibrating s) hw hf
  rw [← heldLines_failedHandshake m, ← releasesFor_congr _ (release_failedHandshake m)] at hrel
  rw [calOp_of_raised hh hm hr hrun, abortCal_returns hrel, ← CalAction.err_of_fails hf.fails]
  rfl

/-- CAL, an action of which fails, with a release that never returns (70_reset_and_hazards.md R333). -/
theorem calOp_stuck {j : Nat} (hw : s.cfg.wf = true) (hh : s.handle = some h) (hm : s.mcs ≠ .done)
    (hr : s.cfg.requiresHandshake = true) (hf : FirstFailure (calActions s.cfg) before a n s.env)
    (hj : j < heldLines (failedCal before a n s)) (hhang : s.env.releaseHangsAt j = true) :
    calOp s = .stopped (.blocked .gpio) := by
  obtain ⟨m, hrun⟩ := handshake_failed (s := calibrating s) hw hf
  rw [← heldLines_failedHandshake m] at hj
  rw [← releaseHangsAt_congr j (release_failedHandshake m)] at hhang
  rw [calOp_of_raised hh hm hr hrun, abortCal_stuck hj hhang]

end handshake

/-- Settles O38: T1 to T4 perform their actions, and T5 gives the lines back. -/
theorem calHandshakeRunsFiveTransitions : Obligations.CalHandshakeRunsFiveTransitions := by
  intro s h hw hh hm hr hbus hgpio hrel
  have hcal := calOp_done (s := clearErr s) hw hh hm hr ((answersOk_calActions _ _).2 ⟨hgpio, hbus⟩) hrel
  rw [exec_opCal, hcal]
  rfl

/-- The four frames of a WRCH of channel 0 under the default addresses (42_motor_calibration.md R213). -/
theorem wrchEvents_example {cfg : Config} {d : Duty} (hb : cfg.chBase = 0x06#8)
    (ho : cfg.edgeOffset = ⟨0, 1, 2, 3⟩) :
    wrchEvents cfg 0 d = [.busW cfg.devAddr [0x06#8, 0x00#8] true, .busW cfg.devAddr [0x07#8, 0x00#8] true,
      .busW cfg.devAddr [0x08#8, edgeData d .offL] true, .busW cfg.devAddr [0x09#8, edgeData d .offH] true] := by
  simp [wrchEvents, regwrEvent, edgeOrder, edgeAddr, edgeOffsetOf, hb, ho, edgeData]

/-- Settles O39: the trace O38 gives, with the numbers of the rule's configuration put in. -/
theorem calTraceOfTheWorkedExample : Obligations.CalTraceOfTheWorkedExample := by
  intro s h hw hh hm hr htrans hch hcal hb ho hbus hgpio hrel
  have hgpio' : s.env.gpioOkFor (calGpioActions s.cfg) = true := by
    rw [calGpioActions]
    split
    · exact hgpio
    · exact ((gpioOkFor_add 9 2).1 hgpio).1
  have hrel' : s.env.releasesFor (calReleases s.cfg) = true := by
    rw [calReleases, if_pos htrans]
    split
    · exact hrel
    · exact (releasesFor_succ 0).2 ⟨((releasesFor_succ 1).1 hrel).1, rfl⟩
  refine ⟨_, calHandshakeRunsFiveTransitions s h hw hh (by simp [hm]) hr hbus hgpio' hrel', rfl, ?_⟩
  have hneutral : neutralDuty ⟨100, 420, false⟩ = 0x104#12 := by decide
  have hfull : fullDuty ⟨100, 420, false⟩ = 0x1A4#12 := by decide
  have hzero : zeroDuty ⟨100, 420, false⟩ = 0x064#12 := by decide
  simp only [calEvents, hch, hcal, hneutral, hfull, hzero, wrchEvents_example hb ho, htrans, if_true]
  cases hp : s.cfg.powerLinePresent <;> simp [pulseEvents, edgeData, offHighByte]

/-! ### Whatever the other agents answer -/

/-- `t` differs from `s` at most in what a CAL with a handshake may touch: ERR, CAL_ATTEMPTED, MCS, the lines, the
trace, the chip, and the answers of the bus and of the lines. -/
def CalOnly (s t : State) : Prop :=
  t = { s with
    err := t.err, calAttempted := true, mcs := t.mcs, gpioSetting := t.gpioSetting
    gpioPower := t.gpioPower, tr := t.tr, chip := t.chip
    env := { s.env with bus := t.env.bus, gpio := t.env.gpio, release := t.env.release } }

section aborted
variable {s : State} {before : List CalAction} {a : CalAction} {n : Nat} {e : Env}

theorem CalOnly.of_clearErr {t : State} (h : CalOnly (clearErr s) t) : CalOnly s t := h

theorem CalOnly.seq {t : State} (h : CalOnly s t) : t.seq = s.seq := by
  unfold CalOnly at h
  rw [h]

theorem afterCal_calOnly (s : State) : CalOnly s (afterCal s) := by
  simp only [CalOnly, afterCal]
  rfl

theorem abortedCal_calOnly : CalOnly s (abortedCal before a n s) := by
  simp only [CalOnly, abortedCal, failedCal, afterFailure, afterActions]
  rfl

theorem err_code_of_fails (h : a.Fails n e) : a.err.code = 1 ∨ a.err.code = 5 := by
  rw [CalAction.err_of_fails h, CalAction.raise]
  cases a.isWrite
  · exact .inr rfl
  · exact .inl rfl

theorem abortedCal_getLast? : (abortedCal before a n s).tr.getLast? = some (.log .calAbort a.err.info) := by
  simp [abortedCal]

end aborted

/-- Settles O40: where every answer comes, the actions all answer `ok`, or one of them is the first to fail and the
releases of the abort return. -/
theorem calEndsDoneOrAborted : Obligations.CalEndsDoneOrAborted := by
  intro s h hw hh hm hr hresp
  have hrel := responsive_releasesFor hresp
  rw [exec_opCal]
  rcases answersOk_or_firstFailure hresp (calActions s.cfg) with hok | ⟨before, a, n, hf⟩
  · rw [calOp_done (s := clearErr s) hw hh hm hr hok (hrel _)]
    have hframe := (afterCal_calOnly (clearErr s)).of_clearErr
    exact ⟨_, rfl, rfl, hframe.seq, hframe, .inl ⟨rfl, rfl⟩⟩
  · rw [calOp_aborted (s := clearErr s) hw hh hm hr hf (hrel _)]
    have hframe := (abortedCal_calOnly (before := before) (a := a) (n := n) (s := clearErr s)).of_clearErr
    exact ⟨_, rfl, rfl, hframe.seq, hframe, .inr ⟨rfl, rfl, releasedLine_held _, releasedLine_held _,
      err_code_of_fails hf.fails, abortedCal_getLast?⟩⟩

/-! ### Whichever action fails -/

/-- Where the handshake stands at one of its actions: the lines are requested one after the other, POWER first where
it exists, and what follows requests none and leaves POWER alone (42_motor_calibration.md R203). -/
inductive CalStands (cfg : Config) : List CalAction → CalAction → Prop
  | power (hpow : cfg.powerLinePresent = true) : CalStands cfg [] (.request 1 .power)
  | powerOn (hpow : cfg.powerLinePresent = true) :
      CalStands cfg [.request 1 .power] (.drive 1 .power true)
  | setting : CalStands cfg (powerActions cfg) (.request 1 .setting)
  | driving (ys : List CalAction) (a : CalAction) (hys : ∀ y ∈ ys, y ∈ settingActions cfg)
      (ha : a ∈ settingActions cfg) : CalStands cfg (powerActions cfg ++ .request 1 .setting :: ys) a

section stands
variable {cfg : Config} {before rest ys : List CalAction} {a x : CalAction} {l : Line} {g : GpioLine} {n : Nat}

theorem calStands_of_split (h : calActions cfg = before ++ a :: rest) : CalStands cfg before a := by
  rw [calActions_eq, List.append_eq_append_iff] at h
  rcases h with ⟨ys, rfl, hys⟩ | ⟨zs, hzs, hrest⟩
  · cases ys with
    | nil =>
      obtain ⟨rfl, -⟩ := List.cons.inj hys
      rw [List.append_nil]
      exact .setting
    | cons y ys =>
      obtain ⟨rfl, hsplit⟩ := List.cons.inj hys
      exact .driving ys a (fun y hy => by simp [hsplit, hy]) (by simp [hsplit])
  · cases zs with
    | nil =>
      obtain ⟨rfl, -⟩ := List.cons.inj hrest
      rw [← List.append_nil before, ← hzs]
      exact .setting
    | cons z zs =>
      obtain ⟨rfl, -⟩ := List.cons.inj hrest
      rw [powerActions] at hzs
      split at hzs
      · rename_i hpow
        match before, hzs with
        | [], hzs => obtain ⟨rfl, -⟩ := List.cons.inj hzs; exact .power hpow
        | [b], hzs =>
          obtain ⟨rfl, htl⟩ := List.cons.inj hzs
          obtain ⟨rfl, -⟩ := List.cons.inj htl
          exact .powerOn hpow
        | _ :: _ :: _, hzs => simp at hzs
      · simp at hzs

/-- Once the setting line is requested no line is, and POWER stays as it is. -/
theorem settingActions_spec (hx : x ∈ settingActions cfg) : x.isRequest = false ∧ x.line .power g = g := by
  have hmotor : ∀ {d}, x ∈ motorActions cfg d → x.isRequest = false ∧ x.line .power g = g := by
    intro d hmem
    obtain ⟨edge, -, rfl⟩ := List.mem_map.1 hmem
    exact ⟨rfl, rfl⟩
  have hpulse : ∀ {n}, x ∈ pulseActions n → x.isRequest = false ∧ x.line .power g = g := by
    intro n hmem
    simp only [pulseActions, List.mem_cons, List.not_mem_nil, or_false] at hmem
    rcases hmem with rfl | rfl | rfl | rfl <;> exact ⟨rfl, rfl⟩
  simp only [settingActions, List.mem_append, or_assoc] at hx
  rcases hx with hx | hx | hx | hx | hx | hx | hx
  · simp only [List.mem_cons, List.not_mem_nil, or_false] at hx
    rcases hx with rfl | rfl | rfl <;> exact ⟨rfl, rfl⟩
  · exact hmotor hx
  · exact hpulse hx
  · exact hmotor hx
  · exact hpulse hx
  · exact hmotor hx
  · exact hpulse hx

/-- What is no request leaves it open which lines are held. -/
theorem line_held_of_not_request (hx : x.isRequest = false) : (x.line l g).held = g.held := by
  cases x with
  | request t l' => cases hx
  | drive t l' high => rw [CalAction.line]; split <;> rfl
  | write r v => rfl
  | wait w => rfl

theorem lines_held_of_not_request (hys : ∀ y ∈ ys, y.isRequest = false) :
    (ys.foldl (CalAction.line l) g).held = g.held := by
  induction ys generalizing g with
  | nil => rfl
  | cons y ys ih =>
    rw [List.foldl_cons, ih fun z hz => hys z (List.mem_cons_of_mem y hz),
      line_held_of_not_request (hys y List.mem_cons_self)]

theorem powerLine_of_settingActions (hys : ∀ y ∈ ys, y ∈ settingActions cfg) :
    ys.foldl (CalAction.line .power) g = g := by
  induction ys with
  | nil => rfl
  | cons y ys ih =>
    rw [List.foldl_cons, (settingActions_spec (hys y List.mem_cons_self)).2,
      ih fun z hz => hys z (List.mem_cons_of_mem y hz)]

theorem not_request_of_settingActions (hys : ∀ y ∈ ys, y ∈ settingActions cfg) :
    ∀ y ∈ ys, y.isRequest = false :=
  fun y hy => (settingActions_spec (g := ⟨false, .unknown⟩) (hys y hy)).1

theorem request_not_mem (hys : ∀ y ∈ ys, y.isRequest = false) (t : Byte) : .request t l ∉ ys :=
  fun hmem => nomatch hys _ hmem

/-- Before an action of the handshake a line is held, its request made, or it is as it was. -/
theorem CalStands.line_cases (h : CalStands cfg before a) (l : Line) (g : GpioLine) :
    (.request 1 l ∈ before ∧ (before.foldl (CalAction.line l) g).held = true) ∨
      (.request 1 l ∉ before ∧ before.foldl (CalAction.line l) g = g) := by
  have hpower : (.request 1 l ∈ powerActions cfg ∧ ((powerActions cfg).foldl (CalAction.line l) g).held = true) ∨
      (.request 1 l ∉ powerActions cfg ∧ (powerActions cfg).foldl (CalAction.line l) g = g) := by
    rw [powerActions]
    split
    · cases l
      · exact .inr ⟨by simp, rfl⟩
      · exact .inl ⟨by simp, rfl⟩
    · exact .inr ⟨by simp, rfl⟩
  cases h with
  | power => exact .inr ⟨by simp, rfl⟩
  | powerOn =>
    cases l
    · exact .inr ⟨by simp, rfl⟩
    · exact .inl ⟨by simp, rfl⟩
  | setting => exact hpower
  | driving ys a hys ha =>
    have hreq := not_request_of_settingActions hys
    rw [List.foldl_append, List.foldl_cons]
    cases l with
    | setting => exact .inl ⟨by simp, lines_held_of_not_request hreq⟩
    | power =>
      rw [powerLine_of_settingActions hys, CalAction.line, if_neg (by decide), List.mem_append, List.mem_cons]
      simpa [request_not_mem hreq] using hpower

/-- As many requests were made before an action as lines are held (42_motor_calibration.md R203). -/
theorem CalStands.countP_isRequest (h : CalStands cfg before a) : before.countP CalAction.isRequest =
    (decide (.request 1 .setting ∈ before)).toNat + (decide (.request 1 .power ∈ before)).toNat := by
  have hsetting : .request 1 .setting ∉ powerActions cfg := by
    rw [powerActions]
    split <;> simp
  have hpower : (powerActions cfg).countP CalAction.isRequest =
      (decide (.request 1 .power ∈ powerActions cfg)).toNat := by
    rw [powerActions]
    split <;> rfl
  cases h with
  | power => rfl
  | powerOn => rfl
  | setting => rw [decide_eq_false hsetting, Bool.toNat_false, Nat.zero_add, hpower]
  | driving ys a hys ha =>
    have hreq := not_request_of_settingActions hys
    have hcount : ys.countP CalAction.isRequest = 0 :=
      List.countP_eq_zero.2 fun y hy => by rw [hreq y hy]; exact Bool.false_ne_true
    have hmem : .request 1 .power ∈ powerActions cfg ++ .request 1 .setting :: ys ↔
        .request 1 .power ∈ powerActions cfg := by
      simp [request_not_mem hreq]
    rw [List.countP_append, List.countP_cons_of_pos rfl, hpower, hcount, decide_eq_decide.2 hmem,
      decide_eq_true (List.mem_append_right _ List.mem_cons_self), Bool.toNat_true, Nat.add_comm]

/-- A request of the handshake is one of T1. -/
theorem CalStands.failedLine (h : CalStands cfg before a) (l : Line) (g : GpioLine) :
    a.failedLine l g = if a = .request 1 l then ⟨g.held, .unknown⟩ else g := by
  cases h with
  | power => cases l <;> rfl
  | powerOn => rfl
  | setting => cases l <;> rfl
  | driving ys a hys ha =>
    have hreq := (settingActions_spec (g := g) ha).1
    cases a with
    | request t l' => cases hreq
    | _ => rfl

/-- A line that was not held before CAL is held at a failure exactly where it was requested before, and once it is
released it is as before where it was not requested at all (10_state.md R30, log 24). -/
theorem CalStands.line_at_failure (h : CalStands cfg before a) (l : Line) (hg : g.held = false) :
    (a.failedLine l (before.foldl (CalAction.line l) g)).held = decide (.request 1 l ∈ before) ∧
      releasedLine (a.failedLine l (before.foldl (CalAction.line l) g)) =
        if .request 1 l ∈ before ++ [a] then ⟨false, .unknown⟩ else g := by
  rw [h.failedLine]
  rcases h.line_cases l g with ⟨hmem, hheld⟩ | ⟨hmem, hsame⟩
  · have hheld' : (if a = .request 1 l then ⟨(before.foldl (CalAction.line l) g).held, .unknown⟩
        else before.foldl (CalAction.line l) g : GpioLine).held = true := by
      split <;> exact hheld
    rw [releasedLine, if_pos hheld', hheld', decide_eq_true hmem, if_pos (List.mem_append_left _ hmem)]
    exact ⟨rfl, rfl⟩
  · have hiff : .request 1 l ∈ before ++ [a] ↔ a = .request 1 l := by
      rw [List.mem_append, List.mem_singleton, or_iff_right hmem, eq_comm]
    rw [hsame, hg, decide_eq_false hmem, if_congr hiff rfl rfl]
    split
    · exact ⟨rfl, rfl⟩
    · exact ⟨hg, if_neg (by simp [hg])⟩

end stands

section failure
variable {s : State} {before : List CalAction} {a : CalAction}

/-- The lines an abort releases are those requested before the failure (42_motor_calibration.md R208). -/
theorem heldLines_failedCal (h : CalStands s.cfg before a) (n : Nat) (hset : s.gpioSetting.held = false)
    (hpow : s.gpioPower.held = false) :
    heldLines (failedCal before a n s) = before.countP CalAction.isRequest := by
  rw [h.countP_isRequest, ← (h.line_at_failure .setting hset).1, ← (h.line_at_failure .power hpow).1]
  rfl

theorem releaseEvents_failedCal (h : CalStands s.cfg before a) (n : Nat) (hset : s.gpioSetting.held = false)
    (hpow : s.gpioPower.held = false) :
    releaseEvents (failedCal before a n s) =
      (if .request 1 .setting ∈ before then [.gpioRel .setting] else []) ++
        (if .request 1 .power ∈ before then [.gpioRel .power] else []) := by
  have hs : (failedCal before a n s).gpioSetting.held = _ := (h.line_at_failure .setting hset).1
  have hp : (failedCal before a n s).gpioPower.held = _ := (h.line_at_failure .power hpow).1
  simp only [releaseEvents, hs, hp, decide_eq_true_eq]

/-- The state after the abort, by the actions before the one that failed, where no line was held before CAL
(42_motor_calibration.md R201 to R209). -/
theorem abortedCal_eq (h : CalStands s.cfg before a) (n : Nat) (hset : s.gpioSetting.held = false)
    (hpow : s.gpioPower.held = false) : abortedCal before a n s = { s with
      err := a.err
      calAttempted := true
      mcs := .notStarted
      gpioSetting := if .request 1 .setting ∈ before ++ [a] then ⟨false, .unknown⟩ else s.gpioSetting
      gpioPower := if .request 1 .power ∈ before ++ [a] then ⟨false, .unknown⟩ else s.gpioPower
      tr := s.tr ++ before.map (CalAction.event s.cfg true) ++ [a.event s.cfg false] ++
        (if .request 1 .setting ∈ before then [.gpioRel .setting] else []) ++
        (if .request 1 .power ∈ before then [.gpioRel .power] else []) ++ [.log .calAbort a.err.info]
      chip := { s.chip with
        regs := (if 2 ≤ n then before ++ [a] else before).foldl CalAction.regs s.chip.regs }
      env := (envAfter (before ++ [a]) s.env).dropRelease (before.countP CalAction.isRequest) } := by
  have hregs : (if 2 ≤ n then before ++ [a] else before).foldl CalAction.regs s.chip.regs =
      if 2 ≤ n then a.regs (before.foldl CalAction.regs s.chip.regs)
      else before.foldl CalAction.regs s.chip.regs := by
    split
    · exact List.foldl_append
    · rfl
  rw [abortedCal, heldLines_failedCal h n hset hpow, releaseEvents_failedCal h n hset hpow, hregs,
    ← (h.line_at_failure .setting hset).2, ← (h.line_at_failure .power hpow).2, envAfter_append,
    ← List.append_assoc]
  rfl

/-- The failure of the `k`-th action of the handshake is the first. -/
theorem firstFailure_of_calFailsAt {cfg : Config} {k n : Nat} {e : Env} (h : calFailsAt cfg k n a e = true) :
    FirstFailure (calActions cfg) ((calActions cfg).take k) a n e ∧
      (calActions cfg).take (k + 1) = (calActions cfg).take k ++ [a] := by
  simp only [calFailsAt, Bool.and_eq_true, Bool.or_eq_true, beq_iff_eq] at h
  obtain ⟨⟨⟨hk, hgpio⟩, hbus⟩, hfails⟩ := h
  refine ⟨⟨⟨(calActions cfg).drop (k + 1), ?_⟩, ⟨hgpio, hbus⟩, hfails⟩, ?_⟩
  · obtain ⟨hlt, hget⟩ := List.getElem?_eq_some_iff.1 hk
    rw [← hget, ← List.drop_eq_getElem_cons hlt, List.take_append_drop]
  · rw [List.take_add_one, hk]
    rfl

end failure

/-- Settles O41: the first action to fail aborts the handshake; which lines are then held, and what becomes of them,
is read off the requests before it. -/
theorem calAbortsAtTheFailedAction : Obligations.CalAbortsAtTheFailedAction := by
  intro s h k n a hw hh hm hr hset hpow hfails before upTo made requests
  obtain ⟨hf, hup⟩ : FirstFailure (calActions s.cfg) before a n s.env ∧ upTo = before ++ [a] :=
    firstFailure_of_calFailsAt hfails
  have hmade : made = if 2 ≤ n then before ++ [a] else before := by rw [← hup]
  obtain ⟨rest, hsplit⟩ := hf.split
  have hstands := calStands_of_split hsplit
  have hheld : heldLines (failedCal before a n (clearErr s)) = requests :=
    heldLines_failedCal (s := clearErr s) hstands n hset hpow
  rw [exec_opCal]
  constructor
  · intro hrel
    rw [calOp_aborted (s := clearErr s) hw hh hm hr hf (hheld ▸ hrel),
      abortedCal_eq (s := clearErr s) hstands n hset hpow, hup, hmade]
    rfl
  · intro j hj hhang
    rw [calOp_stuck (s := clearErr s) hw hh hm hr hf (hheld ▸ hj) hhang]
    rfl

end Sys2Proof.Machine
end

section
/-! Halted, the clearance comparison, and the tick that sees TERM (43_control_loop.md R233, R234, R245). -/
namespace Sys2Proof.Machine

/-! ### Halted -/

/-- In Halted the turn settles in the state as it is, whatever the host does but a block reset and the read of a
result register (43_control_loop.md R245, log 22). -/
theorem arbitrate_of_halted {s : State} {a : PortAction} (hhalt : isHalted s = true) (hrun : s.runActive = false)
    (hreset : a ≠ .blockReset) (hread : ∀ r, a ≠ .readResult r) : arbitrate a s = .settle s := by
  cases a with
  | blockReset => exact absurd rfl hreset
  | readResult r => exact absurd rfl (hread r)
  | _ => simp [arbitrate, hrun, hhalt]

/-- Settles O11: the turn settles in the state with the input taken. -/
theorem haltedAcceptsNoOperation : Obligations.HaltedAcceptsNoOperation := by
  intro s code hw hphase hrun hreset hread
  have hhalt : isHalted (takeInput s) = true := by simp [isHalted, hphase]
  exact step_of_settle hw (arbitrate_of_halted hhalt hrun hreset hread)

/-! ### The clearance comparison -/

section below
variable {r t : F64}

theorem below_of_nan_left (h : f64Value r = .nan) : below r t = false := by
  simp [below, h]

theorem below_of_nan_right (h : f64Value t = .nan) : below r t = false := by
  cases hr : f64Value r with
  | nan => exact below_of_nan_left hr
  | infinite negative => simp [below, hr, h]
  | finite x => simp [below, hr, h]

/-- Finite words compare as their values (43_control_loop.md R234). -/
theorem below_of_finite {x y : Int} (hr : f64Value r = .finite x) (ht : f64Value t = .finite y) :
    below r t = decide (x < y) := by
  simp [below, hr, ht]

/-- A finite reading lies below plus infinity, and not below minus infinity. -/
theorem below_of_finite_infinite {x : Int} {negative : Bool} (hr : f64Value r = .finite x)
    (ht : f64Value t = .infinite negative) : below r t = !negative := by
  simp [below, hr, ht]

/-- Minus infinity lies below every threshold that is neither a NaN nor itself. -/
theorem below_of_minusInfinity (hr : f64Value r = .infinite true) (hn : f64Value t ≠ .nan)
    (ht : f64Value t ≠ .infinite true) : below r t = true := by
  cases hv : f64Value t with
  | nan => exact absurd hv hn
  | finite y => simp [below, hr, hv]
  | infinite negative =>
    cases negative with
    | false => simp [below, hr, hv]
    | true => exact absurd hv ht

/-- Plus infinity lies below nothing. -/
theorem below_of_plusInfinity (hr : f64Value r = .infinite false) : below r t = false := by
  cases ht : f64Value t with
  | nan => exact below_of_nan_right ht
  | infinite negative => simp [below, hr, ht]
  | finite y => simp [below, hr, ht]

/-- Nothing lies below minus infinity. -/
theorem below_minusInfinity (ht : f64Value t = .infinite true) : below r t = false := by
  cases hr : f64Value r with
  | nan => exact below_of_nan_left hr
  | finite x => exact below_of_finite_infinite hr ht
  | infinite negative =>
    cases negative with
    | false => exact below_of_plusInfinity hr
    | true => simp [below, hr, ht]

theorem below_irrefl (r : F64) : below r r = false := by
  cases hr : f64Value r with
  | nan => exact below_of_nan_left hr
  | finite x => rw [below_of_finite hr hr, decide_eq_false (lt_irrefl x)]
  | infinite negative =>
    cases negative with
    | false => exact below_of_plusInfinity hr
    | true => exact below_minusInfinity hr

end below

/-- Settles O59, by the kinds of value of the reading and of the threshold. -/
theorem belowIsTheIeeeLessThan : Obligations.BelowIsTheIeeeLessThan := by
  intro r t
  refine ⟨fun h => h.elim below_of_nan_left below_of_nan_right, below_irrefl r, fun x y hr ht => ?_,
    fun x hr ht => below_of_finite_infinite hr ht, fun x hr ht => ?_, fun hr ht => ?_, below_minusInfinity,
    below_of_plusInfinity⟩
  · rw [below_of_finite hr ht, decide_eq_true_eq]
  · exact below_of_minusInfinity hr (by simp [ht]) (by simp [ht])
  · exact below_of_minusInfinity hr (by simp [ht]) (by simp [ht])

/-! ### The tick that sees TERM -/

theorem exec_opShutdown (s : State) : exec .opShutdown s = (shutdownOp (clearErr s)).outcome := rfl

/-- Settles O47: on an open handle the tick looks at TERM before anything else. -/
theorem tickWithTermShutsDown : Obligations.TickWithTermShutsDown := by
  intro s h hh hterm
  change (tickOp (clearErr s)).outcome = _
  rw [exec_opShutdown, tickOp, needHandle_some _ (clearErr s) h hh, if_pos (by exact hterm)]

end Sys2Proof.Machine
end

section
/-! ERR and SEQ.idx in CAL and OPEN (60_exceptions.md R270): neither operation reads them or writes SEQ.idx, and each
writes ERR exactly where it raises, with the error it raises. -/
namespace Sys2Proof.Machine

/-- The state with another ERR and another SEQ.idx. -/
def withErrIdx (e : ErrReg) (i : Channel) (s : State) : State :=
  { s with err := e, seq := { s.seq with idx := i } }

/-- The same answer with another SEQ.idx, and with another ERR where nothing was raised. -/
def Res.withErrIdx {α : Type} (e : ErrReg) (i : Channel) : Res α → Res α
  | .done a s => .done a (Machine.withErrIdx e i s)
  | .raised x s => .raised x (Machine.withErrIdx s.err i s)
  | .stopped f => .stopped f

/-- The action neither reads ERR and SEQ.idx nor writes SEQ.idx, and writes ERR exactly where it raises. -/
structure ErrByRaise {α : Type} (a : State → Res α) : Prop where
  blind : ∀ e i s, a (withErrIdx e i s) = (a s).withErrIdx e i
  shown : ∀ s, (a s).Holds (fun _ _ => True) fun x t => t.err = ⟨errCode x.kind, x.info⟩

/-- The update neither reads nor writes ERR and SEQ.idx. -/
def ErrIdxFree (f : State → State) : Prop := ∀ e i s, f (withErrIdx e i s) = withErrIdx e i (f s)

@[simp] theorem withErrIdx_cfg (e : ErrReg) (i : Channel) (s : State) : (withErrIdx e i s).cfg = s.cfg := rfl
@[simp] theorem withErrIdx_chip (e : ErrReg) (i : Channel) (s : State) : (withErrIdx e i s).chip = s.chip := rfl
@[simp] theorem withErrIdx_env (e : ErrReg) (i : Channel) (s : State) : (withErrIdx e i s).env = s.env := rfl
@[simp] theorem withErrIdx_handle (e : ErrReg) (i : Channel) (s : State) :
    (withErrIdx e i s).handle = s.handle := rfl
@[simp] theorem withErrIdx_mcs (e : ErrReg) (i : Channel) (s : State) : (withErrIdx e i s).mcs = s.mcs := rfl

section consequences
variable {α : Type} {a : State → Res α} {s t : State} {x : α} {e : Raise}

theorem withErrIdx_self (s : State) : withErrIdx s.err s.seq.idx s = s := rfl

theorem clearErr_eq_withErrIdx (s : State) : clearErr s = withErrIdx ⟨0, 0⟩ s.seq.idx s := rfl

/-- A done action leaves ERR and SEQ.idx as they were. -/
theorem ErrByRaise.of_done (ha : ErrByRaise a) (h : a s = .done x t) : t.err = s.err ∧ t.seq.idx = s.seq.idx := by
  have hself := ha.blind s.err s.seq.idx s
  rw [withErrIdx_self, h, Res.withErrIdx] at hself
  obtain ⟨-, ht⟩ := Res.done.inj hself
  rw [ht]
  exact ⟨rfl, rfl⟩

/-- A raised error stands in ERR, and SEQ.idx is as it was. -/
theorem ErrByRaise.of_raised (ha : ErrByRaise a) (h : a s = .raised e t) :
    t.err = ⟨errCode e.kind, e.info⟩ ∧ t.seq.idx = s.seq.idx := by
  have hself := ha.blind s.err s.seq.idx s
  rw [withErrIdx_self, h, Res.withErrIdx] at hself
  obtain ⟨-, ht⟩ := Res.raised.inj hself
  have hshown := ha.shown s
  rw [h] at hshown
  exact ⟨hshown, by rw [ht]; rfl⟩

/-- What an operation issued through CMD comes to: done with ERR clear, or raised with the error in ERR. -/
theorem ErrByRaise.outcome_clearErr {a : Act} (ha : ErrByRaise a) (h : (a (clearErr s)).outcome = .next t) :
    (t.err = ⟨0, 0⟩ ∧ a (clearErr s) = .done () t) ∨
      ∃ e : Raise, t.err = ⟨errCode e.kind, e.info⟩ ∧ a (clearErr s) = .raised e t := by
  rcases outcome_next h with hdone | ⟨e, hraised⟩
  · exact .inl ⟨(ha.of_done hdone).1, hdone⟩
  · exact .inr ⟨e, (ha.of_raised hraised).1, hraised⟩

end consequences

/-! ### How the property composes -/

section compose
variable {α β : Type} {a : State → Res α} {f : State → State}

theorem errByRaise_done (x : α) (hf : ErrIdxFree f) : ErrByRaise fun s => Res.done x (f s) where
  blind e i s := congrArg (Res.done x) (hf e i s)
  shown _ := trivial

theorem errByRaise_raise (k : ErrKind) (n : BitVec 16) (hf : ErrIdxFree f) :
    ErrByRaise fun s => (raiseErr k n (f s) : Res α) where
  blind e i s := by rw [hf e i s]; rfl
  shown _ := rfl

theorem ErrByRaise.comp (ha : ErrByRaise a) (hf : ErrIdxFree f) : ErrByRaise fun s => a (f s) where
  blind e i s := by rw [hf e i s, ha.blind]
  shown s := ha.shown (f s)

/-- An action that depends on something read from the state, other than ERR and SEQ.idx. -/
theorem ErrByRaise.reading {γ : Type} {g : γ → State → Res α} (p : State → γ)
    (hp : ∀ e i s, p (withErrIdx e i s) = p s) (hg : ∀ x, ErrByRaise (g x)) : ErrByRaise fun s => g (p s) s where
  blind e i s := by rw [hp, (hg (p s)).blind]
  shown s := (hg (p s)).shown s

theorem ErrByRaise.andThen {g : α → State → Res β} (ha : ErrByRaise a) (hg : ∀ x, ErrByRaise (g x)) :
    ErrByRaise fun s => (a s).andThen g where
  blind e i s := by
    rw [ha.blind]
    cases a s with
    | done x t => exact (hg x).blind e i t
    | raised x t => rfl
    | stopped f => rfl
  shown s := holds_andThen (holds_mono (ha.shown s) (fun _ _ h => h) fun _ _ h => h)
    fun x t _ => (hg x).shown t

theorem errByRaise_runSteps {as : List Act} (h : ∀ a ∈ as, ErrByRaise a) : ErrByRaise (runSteps as) := by
  induction as with
  | nil => exact errByRaise_done () fun _ _ _ => rfl
  | cons a rest ih =>
    exact (h a List.mem_cons_self).andThen fun _ => ih fun b hb => h b (List.mem_cons_of_mem a hb)

theorem ErrByRaise.closeOnRaise {a : Act} (ha : ErrByRaise a) : ErrByRaise fun s => closeOnRaise (a s) where
  blind e i s := by
    rw [ha.blind]
    cases a s <;> rfl
  shown s := closeOnRaise_holds (holds_mono (ha.shown s) (fun _ _ h => h) fun _ _ h => h)

end compose

/-! ### The actions -/

theorem errByRaise_delay (w : Wait) : ErrByRaise (delay w) := errByRaise_done () fun _ _ _ => rfl

theorem errByRaise_setMcs (m : Mcs) : ErrByRaise (setMcs m) := errByRaise_done () fun _ _ _ => rfl

theorem errByRaise_busWrite (a : BusAddr) (bytes : List Byte) : ErrByRaise (busWrite a bytes) where
  blind e i s := by
    simp only [busWrite, withErrIdx_env, withErrIdx_cfg, withErrIdx_chip]
    cases s.env.bus.head with
    | hang => rfl
    | got r => cases hc : s.chip.receive s.cfg a (r.arrived bytes) <;> simp only [hc] <;> rfl
  shown s := by
    rcases busWrite_cases a bytes s with ⟨f, h⟩ | ⟨r, chip, -, -, h⟩ <;> rw [h] <;> trivial

/-- What follows a transfer that answered: nothing, or the raise of its error. -/
theorem errByRaise_checked (ok : Bool) (k : ErrKind) (n : BitVec 16) :
    ErrByRaise fun s => if ok then Res.done () s else raiseErr k n s := by
  cases ok
  · exact errByRaise_raise k n fun _ _ _ => rfl
  · exact errByRaise_done () fun _ _ _ => rfl

theorem errByRaise_regWrite (r v : Byte) : ErrByRaise (regWrite r v) :=
  have hwrite : ErrByRaise fun s => busWrite s.cfg.devAddr [r, v] s :=
    .reading (g := fun cfg => busWrite cfg.devAddr [r, v]) State.cfg (fun _ _ _ => rfl)
      fun cfg => errByRaise_busWrite cfg.devAddr [r, v]
  hwrite.andThen fun ok => errByRaise_checked ok _ _

theorem errByRaise_swrst : ErrByRaise swrst :=
  have hwrite : ErrByRaise fun s => busWrite s.cfg.swrstAddr [s.cfg.swrstByte] s :=
    .reading (g := fun cfg => busWrite cfg.swrstAddr [cfg.swrstByte]) State.cfg (fun _ _ _ => rfl)
      fun cfg => errByRaise_busWrite cfg.swrstAddr [cfg.swrstByte]
  hwrite.andThen fun ok => errByRaise_checked ok _ _

theorem errByRaise_gpioAnswer : ErrByRaise gpioAnswer where
  blind e i s := by
    simp only [gpioAnswer, withErrIdx_env]
    cases s.env.gpio.head <;> rfl
  shown s := by
    unfold gpioAnswer
    split <;> trivial

theorem errIdxFree_line (l : Line) (g : GpioLine → GpioLine) :
    ErrIdxFree fun s => setGpioLine l (g (gpioLine l s)) s :=
  fun _ _ _ => by cases l <;> rfl

theorem errByRaise_gpioRequest (n : Byte) (l : Line) : ErrByRaise (gpioRequest n l) := by
  refine errByRaise_gpioAnswer.andThen fun ok => ?_
  have hline := errIdxFree_line l fun g => ⟨g.held || ok, .unknown⟩
  have hevent : ErrIdxFree fun s => emit (.gpioReq l ok) (setGpioLine l ⟨(gpioLine l s).held || ok, .unknown⟩ s) :=
    fun e i s => congrArg (emit _) (hline e i s)
  exact (errByRaise_checked ok _ _).comp hevent

theorem errByRaise_gpioWrite (n : Byte) (l : Line) (high : Bool) : ErrByRaise (gpioWrite n l high) := by
  refine errByRaise_gpioAnswer.andThen fun ok => ?_
  have hline := errIdxFree_line l fun g => { g with level := if high then .high else .low }
  cases ok with
  | false => exact errByRaise_raise _ _ fun _ _ _ => rfl
  | true => exact errByRaise_done () fun e i s => congrArg (emit _) (hline e i s)

theorem errByRaise_gpioRelease (l : Line) : ErrByRaise (gpioRelease l) where
  blind e i s := by
    simp only [gpioRelease, withErrIdx_env]
    cases s.env.release.head with
    | hang => rfl
    | got u => cases l <;> rfl
  shown s := by
    unfold gpioRelease
    split <;> trivial

theorem errByRaise_releaseIfHeld (l : Line) : ErrByRaise (releaseIfHeld l) := by
  have hheld : ∀ e i s, (gpioLine l (withErrIdx e i s)).held = (gpioLine l s).held := fun _ _ _ => by cases l <;> rfl
  refine ErrByRaise.reading (g := fun (held : Bool) s => if held then gpioRelease l s else .done () s)
    _ hheld fun held => ?_
  cases held with
  | false => exact errByRaise_done () fun _ _ _ => rfl
  | true => exact errByRaise_gpioRelease l

theorem errByRaise_releaseHeldLines : ErrByRaise releaseHeldLines :=
  errByRaise_runSteps fun a ha => by
    simp only [List.mem_cons, List.not_mem_nil, or_false] at ha
    rcases ha with rfl | rfl
    · exact errByRaise_releaseIfHeld .setting
    · exact errByRaise_releaseIfHeld .power

theorem errByRaise_mapChannel (c : Channel) (w : F32) : ErrByRaise (mapChannel c w) where
  blind e i s := by
    simp only [mapChannel, withErrIdx_cfg]
    cases mapDuty (s.cfg.cal.get c) w <;> rfl
  shown s := by
    unfold mapChannel
    split <;> trivial

theorem errByRaise_writeChannel (c : Channel) (d : Duty) : ErrByRaise (writeChannel c d) :=
  .reading (g := fun cfg => writeEdges cfg c d) State.cfg (fun _ _ _ => rfl) fun cfg =>
    errByRaise_runSteps fun a ha => by
      obtain ⟨x, -, rfl⟩ := List.mem_map.1 ha
      exact errByRaise_regWrite _ _

/-! ### CAL -/

theorem errByRaise_motorWrite (w : F32) : ErrByRaise (motorWrite w) :=
  have hmap : ErrByRaise fun s => mapChannel s.cfg.motorCh w s :=
    .reading (g := fun c => mapChannel c w) (fun s => s.cfg.motorCh) (fun _ _ _ => rfl)
      fun c => errByRaise_mapChannel c w
  have hwrite : ∀ d, ErrByRaise fun s => writeChannel s.cfg.motorCh d s := fun d =>
    .reading (g := fun c => writeChannel c d) (fun s => s.cfg.motorCh) (fun _ _ _ => rfl)
      fun c => errByRaise_writeChannel c d
  hmap.andThen hwrite

theorem errByRaise_pulse {n : Byte} {a : Act} (ha : a ∈ pulse n) : ErrByRaise a := by
  simp only [pulse, List.mem_cons, List.not_mem_nil, or_false] at ha
  rcases ha with rfl | rfl | rfl | rfl
  · exact errByRaise_gpioWrite _ _ _
  · exact errByRaise_delay _
  · exact errByRaise_gpioWrite _ _ _
  · exact errByRaise_delay _

/-- The lines' requests and releases stand in the handshake under a condition on CFG. -/
theorem mem_of_mem_ite {α : Type} {p : Prop} [Decidable p] {xs : List α} {x : α}
    (h : x ∈ if p then xs else []) : x ∈ xs := by
  split at h
  · exact h
  · cases h

/-- Every step of the five transitions (42_motor_calibration.md R203 to R207). -/
theorem errByRaise_handshake {cfg : Config} {a : Act} (ha : a ∈ handshake cfg) : ErrByRaise a := by
  simp only [handshake, List.mem_append] at ha
  rcases ha with (((h1 | h2) | h3) | h4) | h5
  · simp only [calT1, List.mem_append, List.mem_cons, List.not_mem_nil, or_false] at h1
    rcases h1 with h1 | rfl | rfl | rfl | rfl
    · have hpower := mem_of_mem_ite h1
      simp only [List.mem_cons, List.not_mem_nil, or_false] at hpower
      rcases hpower with rfl | rfl
      · exact errByRaise_gpioRequest _ _
      · exact errByRaise_gpioWrite _ _ _
    · exact errByRaise_gpioRequest _ _
    · exact errByRaise_gpioWrite _ _ _
    · exact errByRaise_delay _
    · exact errByRaise_setMcs _
  · simp only [calT2, List.mem_append, List.mem_cons, List.not_mem_nil, or_false] at h2
    rcases h2 with ((rfl | rfl) | h2) | rfl
    · exact errByRaise_gpioWrite _ _ _
    · exact errByRaise_motorWrite _
    · exact errByRaise_pulse h2
    · exact errByRaise_setMcs _
  · simp only [calT3, List.mem_append, List.mem_cons, List.not_mem_nil, or_false] at h3
    rcases h3 with rfl | h3 | rfl
    · exact errByRaise_motorWrite _
    · exact errByRaise_pulse h3
    · exact errByRaise_setMcs _
  · simp only [calT4, List.mem_append, List.mem_cons, List.not_mem_nil, or_false] at h4
    rcases h4 with rfl | h4 | rfl
    · exact errByRaise_motorWrite _
    · exact errByRaise_pulse h4
    · exact errByRaise_setMcs _
  · simp only [calT5, List.mem_append, List.mem_cons, List.not_mem_nil, or_false] at h5
    rcases h5 with h5 | rfl
    · rcases List.mem_cons.1 (mem_of_mem_ite h5) with rfl | hpower
      · exact errByRaise_gpioRelease _
      · rw [List.mem_singleton.1 (mem_of_mem_ite hpower)]
        exact errByRaise_gpioRelease _
    · exact errByRaise_setMcs _

/-- An abort raises whatever it comes to, so ERR as it stood before is gone (42_motor_calibration.md R208). -/
theorem abortCal_withErrIdx (p : Phase) (x : Raise) (e e' : ErrReg) (i : Channel) (s : State) :
    abortCal p x (withErrIdx e i s) = (abortCal p x s).withErrIdx e' i := by
  rw [abortCal, errByRaise_releaseHeldLines.blind, abortCal]
  cases releaseHeldLines s <;> rfl

theorem abortCal_shown (p : Phase) (x : Raise) (s : State) :
    (abortCal p x s).Holds (fun _ _ => True) fun y t => t.err = ⟨errCode y.kind, y.info⟩ :=
  holds_andThen (errByRaise_releaseHeldLines.shown s) fun _ _ _ => rfl

theorem errByRaise_runHandshake : ErrByRaise runHandshake where
  blind e i s := by
    have hrun := (errByRaise_runSteps fun a ha => errByRaise_handshake (cfg := s.cfg) ha).blind e i
      (setPhase .calibrating s)
    have hrun' : runSteps (handshake (withErrIdx e i s).cfg) (setPhase .calibrating (withErrIdx e i s)) =
      (runSteps (handshake s.cfg) (setPhase .calibrating s)).withErrIdx e i := hrun
    rw [runHandshake, hrun', runHandshake]
    cases runSteps (handshake s.cfg) (setPhase .calibrating s) with
    | done u t => rfl
    | raised x t => exact abortCal_withErrIdx _ x t.err e i t
    | stopped f => rfl
  shown s := by
    unfold runHandshake
    split
    · trivial
    · exact abortCal_shown _ _ _
    · trivial

/-- CAL at Done does nothing (42_motor_calibration.md R211). -/
theorem calOp_of_trusted {s : State} (hm : s.mcs = .done) : calOp s = .done () s := if_pos hm

/-- CAL without a handshake (42_motor_calibration.md R212). -/
theorem calOp_of_no_handshake {s : State} (hm : s.mcs ≠ .done) (hr : s.cfg.requiresHandshake = false) :
    calOp s = .done () { s with calAttempted := true, mcs := .done } := by
  rw [calOp, if_neg hm, if_neg (by simp [hr])]

/-- What CAL looks at: Done, no handshake required, no handle, or the handshake to be made (42_motor_calibration.md
R202, R211, R212). -/
theorem cal_conditions (s : State) : s.mcs = .done ∨ (s.mcs ≠ .done ∧ s.cfg.requiresHandshake = false) ∨
    (s.mcs ≠ .done ∧ s.cfg.requiresHandshake = true ∧ s.handle = none) ∨
    (s.mcs ≠ .done ∧ s.cfg.requiresHandshake = true ∧ ∃ h, s.handle = some h) := by
  cases s.cfg.requiresHandshake <;> cases s.handle <;> simp [em]

theorem errByRaise_calOp : ErrByRaise calOp := by
  constructor
  · intro e i s
    rcases cal_conditions s with hm | ⟨hm, hr⟩ | ⟨hm, hr, hh⟩ | ⟨hm, hr, h, hh⟩
    · rw [calOp_of_trusted hm, calOp_of_trusted (by exact hm)]
      rfl
    · rw [calOp_of_no_handshake hm hr, calOp_of_no_handshake (by exact hm) (by exact hr)]
      rfl
    · rw [calOp_refused hh hm hr, calOp_refused (by exact hh) (by exact hm) (by exact hr)]
      rfl
    · rw [calOp_handshake hh hm hr, calOp_handshake (by exact hh) (by exact hm) (by exact hr)]
      exact errByRaise_runHandshake.blind e i { s with calAttempted := true }
  · intro s
    rcases cal_conditions s with hm | ⟨hm, hr⟩ | ⟨hm, hr, hh⟩ | ⟨hm, hr, h, hh⟩
    · rw [calOp_of_trusted hm]
      trivial
    · rw [calOp_of_no_handshake hm hr]
      trivial
    · rw [calOp_refused hh hm hr]
      rfl
    · rw [calOp_handshake hh hm hr]
      exact errByRaise_runHandshake.shown _

/-! ### OPEN -/

theorem errByRaise_resetOp : ErrByRaise resetOp :=
  errByRaise_swrst.andThen fun _ => (errByRaise_delay .settle).andThen fun _ => errByRaise_done () fun _ _ _ => rfl

theorem errByRaise_configureChip (cfg : Config) (p : Byte) : ErrByRaise (configureChip cfg p) :=
  errByRaise_runSteps fun a ha => by
    simp only [List.mem_cons, List.not_mem_nil, or_false] at ha
    rcases ha with rfl | rfl | rfl | rfl | rfl
    · exact errByRaise_regWrite _ _
    · exact errByRaise_regWrite _ _
    · exact errByRaise_delay _
    · exact errByRaise_regWrite _ _
    · exact errByRaise_regWrite _ _

theorem errByRaise_initChip (conn : Nat) : ErrByRaise (initChip conn) := by
  refine .reading (g := fun cfg s => (resetOp s).andThen fun _ s1 =>
    match prescaleOf cfg.freqHz with
    | none => raiseErr .outOfRange (infoWord 0x02 0x00) s1
    | some p => (configureChip cfg p s1).andThen fun _ s2 => .done () { s2 with handle := some ⟨conn, p⟩ })
    State.cfg (fun _ _ _ => rfl) fun cfg => errByRaise_resetOp.andThen fun _ => ?_
  cases prescaleOf cfg.freqHz with
  | none => exact errByRaise_raise _ _ fun _ _ _ => rfl
  | some p => exact (errByRaise_configureChip cfg p).andThen fun _ => errByRaise_done () fun _ _ _ => rfl

theorem errByRaise_busOpen : ErrByRaise busOpen where
  blind e i s := by
    simp only [busOpen, withErrIdx_env]
    cases s.env.busOpen.head <;> rfl
  shown s := by
    unfold busOpen
    dsimp only
    split <;> trivial

theorem errIdxFree_closeHandle : ErrIdxFree closeHandle := fun e i s => by
  rw [closeHandle_eq, closeHandle_eq]
  rfl

theorem errByRaise_openOp : ErrByRaise openOp where
  blind e i s := by
    have hopen := errByRaise_busOpen.andThen fun conn => (errByRaise_initChip conn).closeOnRaise
    rw [openOp, openOp, errIdxFree_closeHandle e i s, withErrIdx_env]
    by_cases hst : (closeHandle s).env.storage.head = true
    · rw [if_pos hst, if_pos hst]
      exact hopen.blind e i { closeHandle s with
        env := { (closeHandle s).env with storage := (closeHandle s).env.storage.tail } }
    · rw [if_neg hst, if_neg hst]
      rfl
  shown s := by
    have hopen := errByRaise_busOpen.andThen fun conn => (errByRaise_initChip conn).closeOnRaise
    unfold openOp
    dsimp only
    split
    · exact hopen.shown _
    · rfl

end Sys2Proof.Machine
end

section
/-! SHUTDOWN and RUN (43_control_loop.md R230, R231, R240, R244, R245). -/
namespace Sys2Proof.Machine

/-! ### SHUTDOWN -/

/-- The state a SHUTDOWN ends in, its reset and its releases done (43_control_loop.md R240, R245). -/
def shutDownFrom (t : State) : State :=
  { t with
    runActive := false
    seq := ⟨.halted 0, t.seq.idx⟩
    gpioSetting := releasedLine t.gpioSetting
    gpioPower := releasedLine t.gpioPower
    tr := t.tr ++ releaseEvents t ++ [.exit 0]
    env := t.env.dropRelease (heldLines t) }

/-- The state after SHUTDOWN's reset answered `ok` (43_control_loop.md R240). -/
def closedAfterReset (s : State) : State :=
  { s with
    handle := none
    env := s.env.dropBus 1
    tr := s.tr ++ [swrstEvent s.cfg true, .delay .settle, .busClose]
    chip := s.chip.softwareReset }

/-- The state after SHUTDOWN's reset failed, `n` bytes of it having reached the chip (43_control_loop.md R240). -/
def closedAfterFailedReset (n : Nat) (s : State) : State :=
  { s with
    err := ⟨2, 0x0000⟩
    handle := none
    env := s.env.dropBus 1
    tr := s.tr ++ [swrstEvent s.cfg false, .log .resetFail 0, .busClose]
    chip := if 1 ≤ n then s.chip.softwareReset else s.chip }

section shutdown
variable {s t : State} {n : Nat}

theorem shutdownReset_closed (hh : s.handle = none) : shutdownReset s = .done () s := by
  simp [shutdownReset, hh]

/-- With the handle open SHUTDOWN's reset is the reset sequence, a failure of it logged, and the bus's close. -/
theorem shutdownReset_open (hh : s.handle.isSome = true) :
    shutdownReset s = ((resetOp s).absorb logResetFail).andThen fun _ t =>
      .done () { busClose t with handle := none } := by
  obtain ⟨h, hh⟩ := Option.isSome_iff_exists.1 hh
  simp [shutdownReset, hh]

theorem shutdownReset_ok (hh : s.handle.isSome = true) (hb : s.env.bus.head = .got .ok) :
    shutdownReset s = .done () (closedAfterReset s) := by
  rw [shutdownReset_open hh, resetOp_ok hb]
  simp [closedAfterReset, busClose, emit]

theorem shutdownReset_failed (hh : s.handle.isSome = true) (hb : s.env.bus.head = .got (.fail n)) :
    shutdownReset s = .done () (closedAfterFailedReset n s) := by
  rw [shutdownReset_open hh, resetOp_fail hb]
  simp [closedAfterFailedReset, logResetFail, logEvent, busClose, emit]

/-- SHUTDOWN whose releases return. -/
theorem shutdownOp_returns (hr : shutdownReset (setPhase .shuttingDown s) = .done () t)
    (hrel : t.env.releasesFor (heldLines t) = true) : shutdownOp s = .done () (shutDownFrom t) := by
  rw [shutdownOp, hr, andThen_done, releaseHeldLines_returns hrel]
  rfl

/-- SHUTDOWN one of whose releases never returns (70_reset_and_hazards.md R333). -/
theorem shutdownOp_stuck (hr : shutdownReset (setPhase .shuttingDown s) = .done () t) (hn : n < heldLines t)
    (hhang : t.env.releaseHangsAt n = true) : shutdownOp s = .stopped (.blocked .gpio) := by
  rw [shutdownOp, hr, andThen_done, releaseHeldLines_hangs hn hhang]
  rfl

end shutdown

/-- Settles O49: the reset comes to one of three states, none of which touches a line or an answer to a release. -/
theorem shutdownResetsAndExits : Obligations.ShutdownResetsAndExits := by
  intro s n _ halted
  let shutting := setPhase .shuttingDown (clearErr s)
  rw [exec_opShutdown]
  have hclosed : s.handle = none → shutdownReset shutting = .done () shutting :=
    fun hh => shutdownReset_closed hh
  have hok : s.handle.isSome = true → s.env.busOkFor 1 = true →
      shutdownReset shutting = .done () (closedAfterReset shutting) :=
    fun hh hb => shutdownReset_ok hh (busOkFor_one.1 hb)
  have hfailed : s.handle.isSome = true → s.env.busFailsAt 0 n = true →
      shutdownReset shutting = .done () (closedAfterFailedReset n shutting) :=
    fun hh hb => shutdownReset_failed hh (busFailsAt_zero.1 hb)
  constructor
  · intro hrel
    have hrel' : ∀ {e : Env}, e.release = s.env.release → e.releasesFor (heldLines s) = true :=
      fun he => (releasesFor_congr _ he).trans hrel
    refine ⟨fun hh => ?_, fun hh hb => ?_, fun hh hb => ?_⟩
    · rw [shutdownOp_returns (hclosed hh) (hrel' rfl)]
      simp only [halted, ← hh]
      rfl
    · rw [shutdownOp_returns (hok hh hb) (hrel' rfl)]
      rfl
    · rw [shutdownOp_returns (hfailed hh hb) (hrel' rfl)]
      rfl
  · intro j hj hhang hcase
    have hstuck : ∀ {t : State}, shutdownReset shutting = .done () t → t.env.release = s.env.release →
        heldLines t = heldLines s → (shutdownOp (clearErr s)).outcome = .fault (.blocked .gpio) := by
      intro t hr he hheld
      rw [shutdownOp_stuck hr (hheld ▸ hj) ((releaseHangsAt_congr j he).trans hhang)]
      rfl
    cases hh : s.handle with
    | none => exact hstuck (hclosed hh) rfl rfl
    | some h =>
      have hopen : s.handle.isSome = true := by rw [hh]; rfl
      rcases hcase with hnone | hb | hb
      · exact absurd hh (by simp [hnone])
      · exact hstuck (hok hopen hb) rfl rfl
      · exact hstuck (hfailed hopen hb) rfl rfl

/-! ### RUN -/

section run
variable {s u v : State}

theorem absorb_keepGoing_of_outcome {r : Res Unit} (h : r.outcome = .next u) : r.absorb keepGoing = .done () u := by
  rcases outcome_next h with rfl | ⟨e, rfl⟩ <;> rfl

/-- The state in which RUN begins its OPEN (43_control_loop.md R230). -/
def runBegun (s : State) : State := { s with runActive := true, seq := ⟨.init, s.seq.idx⟩ }

theorem execRun_loop (h : s.argMode = 0) : exec .opRun s = (runOp false (clearErr s)).outcome := by
  rw [exec_opRun, execRun, h]
  rfl

theorem execRun_calibrate (h : s.argMode = 1) : exec .opRun s = (runOp true (clearErr s)).outcome := by
  rw [exec_opRun, execRun, h]
  rfl

/-- RUN whose OPEN ends with ERR clear goes on after it (43_control_loop.md R230). -/
theorem runOp_opened {calibrate : Bool} (ho : exec .opOpen (runBegun s) = .next u) (herr : u.err.code = 0) :
    runOp calibrate (clearErr s) = afterOpen calibrate u := by
  rcases errByRaise_openOp.outcome_clearErr ho with ⟨-, hdone⟩ | ⟨e, hraised, -⟩
  · have hopen : openOp (setPhase .init { clearErr s with runActive := true }) = .done () u := hdone
    rw [runOp, hopen]
  · rw [hraised] at herr
    exact absurd herr (errCode_bounds e.kind).2

/-- RUN whose OPEN ends with ERR set is fatal (43_control_loop.md R244, 60_exceptions.md R277). -/
theorem runOp_fatal {calibrate : Bool} (ho : exec .opOpen (runBegun s) = .next u) (herr : u.err.code ≠ 0) :
    ∃ e, u.err = ⟨errCode e.kind, e.info⟩ ∧ openOp (clearErr (runBegun s)) = .raised e u ∧
      runOp calibrate (clearErr s) = .done () (fatal e u) := by
  rcases errByRaise_openOp.outcome_clearErr ho with ⟨hclear, -⟩ | ⟨e, hshown, hraised⟩
  · exact absurd (by rw [hclear]) herr
  · have hopen : openOp (setPhase .init { clearErr s with runActive := true }) = .raised e u := hraised
    exact ⟨e, hshown, hraised, by rw [runOp, hopen]⟩

/-- Every answer still comes after an instruction. -/
theorem responsive_opKept : OpKept fun s => s.env.responsive = true where
  write _ _ _ _ _ h _ _ := responsive_busTail h
  read _ _ h _ := responsive_busTail h
  readFail _ _ h _ := responsive_busTail h
  raise _ _ _ h := h
  emitted _ _ _ _ h := h
  gpioTaken _ h := responsive_gpioTail h
  releaseTaken _ h := responsive_releaseTail h
  storageTaken _ h := h
  busOpenTaken _ h := h
  sensed _ _ h := responsive_sensorTail h
  copied _ _ h := responsive_shmTail h
  line _ l _ h := by cases l <;> exact h
  mcs _ _ h := h
  attempted _ h := h
  seq _ _ h := h
  active _ _ h := h
  handle _ _ h := h
  duty _ _ h := h
  presc _ _ h := h
  snapshot _ _ h := h
  cleared _ h := h

/-- With a handle and answers that come a CAL ends: with SEQ and the handle as they were, and attempted where it was
not done before (42_motor_calibration.md R200, R211, R212). -/
theorem exec_opCal_next (hw : u.cfg.wf = true) (hh : u.handle.isSome = true) (hr : u.env.responsive = true) :
    ∃ v, exec .opCal u = .next v ∧ v.seq = u.seq ∧ v.handle = u.handle ∧
      v.calAttempted = (u.calAttempted || decide (u.mcs ≠ .done)) := by
  obtain ⟨h, hh⟩ := Option.isSome_iff_exists.1 hh
  by_cases hm : u.mcs = .done
  · exact ⟨_, calWhenDoneDoesNothing u hm, rfl, rfl, by simp [hm]⟩
  · cases hreq : u.cfg.requiresHandshake with
    | false => exact ⟨_, (calWithoutHandshakeTrustsAtOnce u hreq hm).1, rfl, rfl, by simp [hm]⟩
    | true =>
      obtain ⟨v, hv, hatt, hseq, hframe, -⟩ := calEndsDoneOrAborted u h hw hh hm hreq hr
      exact ⟨v, hv, hseq, by rw [hframe], by simp [hatt, hm]⟩

/-- The OPEN of a RUN in which every step succeeds (40_register_protocol.md R142). -/
theorem exec_opOpen_runBegun {conn : Nat} (hw : s.cfg.wf = true) (hresp : s.env.responsive = true)
    (hst : s.env.storage.head = true) (ho : s.env.busOpen.head = some conn) (hb : s.env.busOkFor 5 = true) :
    ∃ u, exec .opOpen (runBegun s) = .next u ∧ u.err = ⟨0, 0⟩ ∧ u.handle.isSome = true ∧ u.cfg = s.cfg ∧
      u.seq = ⟨.init, s.seq.idx⟩ ∧ u.mcs = s.mcs ∧ u.calAttempted = s.calAttempted ∧
      u.env.responsive = true := by
  obtain ⟨p, -, hopen⟩ := openConfiguresTheChip (runBegun s) conn hw hst ho hb
  exact ⟨_, hopen, rfl, rfl, rfl, rfl, rfl, rfl, exec_keeps (s := runBegun s) responsive_opKept hresp hopen⟩

end run

/-- Settles O50: the OPEN of O26, then the loop's phase, or a CAL first, which ends. -/
theorem runLoopOpensThenRuns : Obligations.RunLoopOpensThenRuns := by
  intro s conn hw hmode hresp hst ho hb
  obtain ⟨u, hopen, herr, hhandle, hcfg, hseq, -, -, hrespu⟩ := exec_opOpen_runBegun hw hresp hst ho hb
  obtain ⟨v, hcal, hseqv, -⟩ := exec_opCal_next (by rw [hcfg]; exact hw) hhandle hrespu
  have hrun : exec .opRun s = (afterOpen false u).outcome := by
    rw [execRun_loop hmode, runOp_opened hopen (by rw [herr])]
  refine ⟨u, hopen, hhandle, fun hpol => ?_, fun hpol => ⟨v, hcal, ?_⟩⟩
  · rw [hrun, afterOpen, if_neg Bool.false_ne_true, if_neg (by rw [hcfg]; exact hpol), andThen_done, setPhase, hseq]
    rfl
  · have hclear : clearErr u = u := by rw [clearErr, ← herr]
    rw [exec_opCal, hclear] at hcal
    rw [hrun, afterOpen, if_neg Bool.false_ne_true, if_pos (by rw [hcfg]; exact hpol),
      absorb_keepGoing_of_outcome hcal, andThen_done, setPhase, hseqv, hseq]
    rfl

/-- Settles O51: the OPEN of O26, a CAL, which ends, and a SHUTDOWN that leaves the CAL's ERR unless its reset
fails. -/
theorem runCalibrateEndsInExitZero : Obligations.RunCalibrateEndsInExitZero := by
  intro s conn hw hmode hresp hst ho hb
  obtain ⟨u, hopen, herr, hhandle, hcfg, hseq, hmcs, hatt, hrespu⟩ := exec_opOpen_runBegun hw hresp hst ho hb
  obtain ⟨v, hcal, hseqv, hhandlev, hattv⟩ := exec_opCal_next (by rw [hcfg]; exact hw) hhandle hrespu
  refine ⟨u, v, hopen, hhandle, hcal, by rw [hattv, hatt, hmcs], ?_⟩
  have hcfgv : v.cfg = s.cfg := ((instructionsKeepConfigTermAndArgs _ _ _ hcal).1).trans hcfg
  have hrel : ∀ n, v.env.releasesFor n = true := responsive_releasesFor (exec_keeps responsive_opKept hrespu hcal)
  have hidx : v.seq.idx = s.seq.idx := by rw [hseqv, hseq]
  have hhv : v.handle.isSome = true := hhandlev ▸ hhandle
  have hrun : exec .opRun s = (shutdownOp v).outcome := by
    have hclear : clearErr u = u := by rw [clearErr, ← herr]
    rw [exec_opCal, hclear] at hcal
    rw [execRun_calibrate hmode, runOp_opened hopen (by rw [herr]), afterOpen, if_pos rfl,
      absorb_keepGoing_of_outcome hcal, andThen_done]
  have hends : ∀ {t : State}, shutdownReset (setPhase .shuttingDown v) = .done () t →
      t.env.release = v.env.release → exec .opRun s = .next (shutDownFrom t) := by
    intro t ht he
    rw [hrun, shutdownOp_returns ht ((releasesFor_congr _ he).trans (hrel _))]
    rfl
  rw [← hcfgv, ← hidx]
  exact ⟨fun hb => hends (shutdownReset_ok hhv hb) rfl, fun n hb => hends (shutdownReset_failed hhv hb) rfl⟩

/-- Settles O52: an error shown in ERR was raised by OPEN, which leaves no handle and SEQ as it was. -/
theorem runOpenErrorIsFatal : Obligations.RunOpenErrorIsFatal := by
  intro s u hmode ho herr
  have hrun : ∃ calibrate, exec .opRun s = (runOp calibrate (clearErr s)).outcome :=
    hmode.elim (fun h => ⟨false, execRun_loop h⟩) fun h => ⟨true, execRun_calibrate h⟩
  obtain ⟨calibrate, hrun⟩ := hrun
  obtain ⟨e, hshown, hraised, hfatal⟩ := runOp_fatal (calibrate := calibrate) ho herr
  have hP : Closed OpenUpdate fun t => t.seq = ⟨.init, s.seq.idx⟩ :=
    Closed.view State.seq _ fun _ _ h => by rw [h.frame]
  have hkeeps := hP.keeps_openOp (s := clearErr (runBegun s)) rfl
  rw [hraised] at hkeeps
  obtain ⟨hseq, hhandle⟩ := hkeeps
  refine ⟨?_, hhandle⟩
  have hcode : u.err.code = errCode e.kind := by rw [hshown]
  rw [hrun, hfatal, hcode, fatal, exitRun]
  simp [logEvent, emit, setPhase, hseq]

end Sys2Proof.Machine
end

section
/-! The channel writes of a tick (43_control_loop.md R234 to R239): what one channel's write leaves, and the ticks
that write one channel or none. -/
namespace Sys2Proof.Machine

/-! ### One channel's four writes, a failure of them logged -/

/-- The channel's writes, with a failed one absorbed and logged (43_control_loop.md R238). -/
def loggedWrite (c : Channel) (d : Duty) : Act := fun s =>
  (writeChannel c d s).absorb fun _ t => logEvent .actFail (channelInfo c) t

section writes
variable {s t : State} {c : Channel} {d : Duty}

theorem edgeOrder_writesBefore (x : Edge) : edgeOrder[writesBefore x]? = some x := by
  cases x <;> rfl

theorem loggedWrite_ok (hw : s.cfg.wf = true) (hb : s.env.busOkFor 4 = true) :
    loggedWrite c d s = .done () { s with
      env := s.env.dropBus 4
      tr := s.tr ++ wrchEvents s.cfg c d
      chip := { s.chip with regs := wrchRegs s.cfg c d s.chip.regs } } := by
  rw [loggedWrite, writeChannel_ok hw hb]
  rfl

/-- A failed write shows in ERR, and the chip holds the mixture (60_exceptions.md R278, 70_reset_and_hazards.md
R320). -/
theorem loggedWrite_failed {f : FailedWrite} (hw : s.cfg.wf = true)
    (hb : s.env.busFailsAt (writesBefore f.edge) f.delivered = true) :
    loggedWrite c d s = .done () { s with
      err := ⟨1, infoWord 0x00 (edgeAddr s.cfg c f.edge)⟩
      env := s.env.dropBus (writesBefore f.edge + 1)
      tr := s.tr ++ (stoppedEvents s.cfg c d f ++ [.log .actFail (channelInfo c)])
      chip := { s.chip with regs := stoppedRegs s.cfg c d f s.chip.regs } } := by
  rw [loggedWrite, writeChannel_failed hw (edgeOrder_writesBefore f.edge) hb]
  simp [logEvent, emit, stoppedEvents, stoppedRegs]

/-! ### The motor channel's preamble -/

/-- The log event of a write to an untrusted motor channel (43_control_loop.md R238). -/
def uncalEvents (cfg : Config) (mcs : Mcs) (c : Channel) : List Event :=
  if c = cfg.motorCh ∧ mcs ≠ .done then [.log .uncal (channelInfo c)] else []

/-- The write of the motor channel starts a calibration (43_control_loop.md R238). -/
def calDue (lazy : Bool) (s : State) : Prop :=
  s.mcs ≠ .done ∧ lazy = true ∧ s.cfg.calPolicy = .onFirstMotorWrite ∧ s.calAttempted = false

theorem logUncal_eq (c : Channel) (s : State) : logUncal c s = .done () { s with
    tr := s.tr ++ if s.mcs = .done then [] else [.log .uncal (channelInfo c)] } := by
  by_cases hm : s.mcs = .done
  · rw [logUncal, if_pos hm, if_pos hm, List.append_nil]
  · rw [logUncal, if_neg hm, if_neg hm]
    rfl

/-- Where no calibration is due the preamble is the log of an untrusted channel. -/
theorem motorPreamble_quiet {lazy : Bool} (h : c = s.cfg.motorCh → ¬ calDue lazy s) :
    motorPreamble c lazy s = .done () { s with tr := s.tr ++ uncalEvents s.cfg s.mcs c } := by
  by_cases hc : c = s.cfg.motorCh ∧ s.mcs ≠ .done
  · have hdue : ¬ (lazy = true ∧ s.cfg.calPolicy = .onFirstMotorWrite ∧ s.calAttempted = false) :=
      fun hl => h hc.1 ⟨hc.2, hl⟩
    rw [motorPreamble, if_pos hc, lazyCal, if_neg hdue, andThen_done, logUncal_eq, if_neg hc.2, uncalEvents, if_pos hc]
  · rw [motorPreamble, if_neg hc, uncalEvents, if_neg hc, List.append_nil]

/-- Where one is due the preamble is CAL, its error absorbed, and then that log (60_exceptions.md R279). -/
theorem motorPreamble_due {lazy : Bool} (hc : c = s.cfg.motorCh) (hdue : calDue lazy s) :
    motorPreamble c lazy s = ((calOp s).absorb keepGoing).andThen fun _ t => logUncal c t := by
  rw [motorPreamble, if_pos ⟨hc, hdue.1⟩, lazyCal, if_pos hdue.2]

/-! ### ChannelWrite -/

variable {w : F32} {lazy : Bool}

theorem channelWrite_rejected (h : mapDuty (s.cfg.cal.get c) w = none) :
    channelWrite c w lazy s = .done () { s with
      err := ⟨4, infoWord 0x01 (BitVec.ofNat 8 c.val)⟩
      tr := s.tr ++ [.log .range (channelInfo c)] } := by
  rw [channelWrite, mapChannel_none h]
  rfl

theorem channelWrite_mapped (h : mapDuty (s.cfg.cal.get c) w = some d) :
    channelWrite c w lazy s = (motorPreamble c lazy s).andThen fun _ t => loggedWrite c d t := by
  rw [channelWrite, mapChannel_some h]
  rfl

/-- Where no calibration is due, ChannelWrite of a good fraction is the log of an untrusted channel and the writes. -/
theorem channelWrite_quiet (h : mapDuty (s.cfg.cal.get c) w = some d) (hq : c = s.cfg.motorCh → ¬ calDue lazy s) :
    channelWrite c w lazy s = loggedWrite c d { s with tr := s.tr ++ uncalEvents s.cfg s.mcs c } := by
  rw [channelWrite_mapped h, motorPreamble_quiet hq, andThen_done]

end writes

/-! ### The override tick -/

theorem uncalEvents_motorCh (cfg : Config) (mcs : Mcs) :
    uncalEvents cfg mcs cfg.motorCh = if mcs = .done then [] else [.log .uncal (channelInfo cfg.motorCh)] := by
  by_cases hm : mcs = .done <;> simp [uncalEvents, hm]

/-- The state in which an override tick comes to its writes (43_control_loop.md R234). -/
def overriding (r : F64) (s : State) : State :=
  { s with
    err := ⟨0, 0⟩
    clr := r
    env := { s.env with sensor := s.env.sensor.tail }
    tr := s.tr ++ [.sense r] ++ if s.mcs = .done then [] else [.log .uncal (channelInfo s.cfg.motorCh)] }

/-- A tick below the clearance is the motor channel's writes to neutral and the sleep (43_control_loop.md R234). -/
theorem exec_opTick_override {s : State} {h : Handle} {r : F64} (hh : s.handle = some h) (hterm : s.term = false)
    (hs : s.cfg.sensorConfigured = true) (hr : s.env.sensor.head = .got r)
    (hbelow : below r s.cfg.minClearance = true) :
    exec .opTick s = ((loggedWrite s.cfg.motorCh (neutralDuty (s.cfg.cal.get s.cfg.motorCh)) (overriding r s)).andThen
      fun _ t => delay .tick t).outcome := by
  have hsense := senseClearance_got (s := clearErr s) hr
  have hquiet : ∀ t : State, ¬ calDue false t := fun _ hdue => Bool.false_ne_true hdue.2.1
  rw [exec_opTick_open hh hterm, tickBody, if_pos (by exact hs), hsense, andThen_done, if_pos (by exact hbelow),
    overrideTick, runSteps_cons, channelWrite_quiet (mapDuty_neutralWord _) fun _ => hquiet _, uncalEvents_motorCh]
  rfl

/-- Settles O42: the tick is the motor channel's four writes, all answered `ok` or one of them `fail`. -/
theorem tickOverrideWritesOnlyNeutral : Obligations.TickOverrideWritesOnlyNeutral := by
  intro s h r hw hh hterm hs hr hbelow c d before
  rw [exec_opTick_override hh hterm hs hr hbelow]
  refine ⟨fun hb => ?_, fun f hb => ?_⟩
  · rw [loggedWrite_ok (s := overriding r s) hw ((busOkFor_congr 4 rfl).trans hb)]
    rfl
  · have hanswers := busFailsAt_congr (e := (overriding r s).env) (e' := s.env) (writesBefore f.edge) f.delivered rfl
    rw [loggedWrite_failed (f := f) (s := overriding r s) hw (hanswers.trans hb)]
    simp [emit, overriding, before, c, d, Env.dropBus]

end Sys2Proof.Machine
end

section
/-! The ticks that act on the snapshot (43_control_loop.md R235 to R239): none of their channels where it is invalid,
each in ascending order where it is valid. -/
namespace Sys2Proof.Machine

/-! ### The snapshot -/

/-- The tick of this state reads no clearance below the threshold and then gets this snapshot (43_control_loop.md
R234, R235); `r` is the clearance, where a sensor is configured. -/
structure ActsOn (s : State) (r : F64) (snap : Snapshot) : Prop where
  handle : s.handle.isSome = true
  term : s.term = false
  clear : s.cfg.sensorConfigured = true → s.env.sensor.head = .got r ∧ below r s.cfg.minClearance = false
  got : s.env.shm.head = .got snap

/-- The state in which such a tick begins to act (43_control_loop.md R236). -/
def snapTaken (r : F64) (snap : Snapshot) (s : State) : State :=
  { s with
    err := ⟨0, 0⟩
    clr := if s.cfg.sensorConfigured then r else s.clr
    snap := snap
    tr := s.tr ++ (if s.cfg.sensorConfigured then [.sense r] else []) ++ [.semAcq, .semRel]
    env := { s.env with
      sensor := if s.cfg.sensorConfigured then s.env.sensor.tail else s.env.sensor
      shm := s.env.shm.tail } }

/-- The state with the clearance read (43_control_loop.md R234). -/
def sensed (r : F64) (s : State) : State :=
  { s with clr := r, env := { s.env with sensor := s.env.sensor.tail }, tr := s.tr ++ [.sense r] }

/-- The state with the snapshot copied (43_control_loop.md R235). -/
def snapCopied (snap : Snapshot) (s : State) : State :=
  { s with snap := snap, env := { s.env with shm := s.env.shm.tail }, tr := s.tr ++ [.semAcq, .semRel] }

section snapshot
variable {s : State} {r : F64} {snap : Snapshot}

/-- The tick without an override is the copy of the snapshot, the channels and the sleep. -/
theorem normalTick_got (h : s.env.shm.head = .got snap) :
    normalTick s = (actuate (snapCopied snap s)).andThen fun _ u => delay .tick u := by
  have hcopy : copySnapshot s = .done () (snapCopied snap s) := by
    rw [copySnapshot_got h]
    simp [snapCopied, emit]
  rw [normalTick, runSteps_cons, hcopy, andThen_done]
  rfl

theorem exec_opTick_actsOn (hs : ActsOn s r snap) :
    exec .opTick s = ((actuate (snapTaken r snap s)).andThen fun _ u => delay .tick u).outcome := by
  obtain ⟨h, hh⟩ := Option.isSome_iff_exists.1 hs.handle
  rw [exec_opTick_open hh hs.term, tickBody]
  cases hsensor : s.cfg.sensorConfigured with
  | false =>
    have hstate : snapCopied snap (clearErr s) = snapTaken r snap s := by
      simp [snapCopied, snapTaken, clearErr, hsensor]
    rw [if_neg (by simp [clearErr, hsensor]), normalTick_got (s := clearErr s) hs.got, hstate]
  | true =>
    obtain ⟨hr, hclear⟩ := hs.clear hsensor
    have hsense : senseClearance (clearErr s) = .done () (sensed r (clearErr s)) :=
      senseClearance_got (s := clearErr s) hr
    have hstate : snapCopied snap (sensed r (clearErr s)) = snapTaken r snap s := by
      simp [snapCopied, sensed, snapTaken, clearErr, hsensor]
    have hbelow : ¬ below (sensed r (clearErr s)).clr (sensed r (clearErr s)).cfg.minClearance = true := by
      rw [Bool.not_eq_true]
      exact hclear
    rw [if_pos (by exact hsensor), hsense, andThen_done, if_neg hbelow,
      normalTick_got (s := sensed r (clearErr s)) hs.got, hstate]

/-- On an invalid snapshot no channel is actuated (43_control_loop.md R236). -/
theorem actuate_invalid (h : s.snap.valid = 0) : actuate s = .done () s := by
  simp [actuate, flagSet, h]

theorem actuate_valid (h : s.snap.valid ≠ 0) : actuate s = runSteps (channels.map actuateChannel) s :=
  if_pos (bne_iff_ne.2 h)

end snapshot

/-- Settles O43: without the channels the tick is the snapshot and the sleep. -/
theorem tickInvalidSnapshotSendsNothing : Obligations.TickInvalidSnapshotSendsNothing := by
  intro s h r snap hh hterm hclear hgot hvalid
  have hacts : ActsOn s r snap := ⟨by simp [hh], hterm, hclear, hgot⟩
  rw [exec_opTick_actsOn hacts, actuate_invalid (by exact hvalid)]
  simp [snapTaken, emit]

/-! ### The channels -/

/-- The state after these channels of a tick in which no calibration starts (43_control_loop.md R237, R238). -/
def afterChannels (snap : Snapshot) (fails : TickFailures) (cs : List Channel) (s : State) : State :=
  { s with
    err := cs.foldl (tickChannelErr s.cfg snap fails) s.err
    seq := ⟨s.seq.phase, cs.getLastD s.seq.idx⟩
    tr := s.tr ++ cs.flatMap (tickChannelEvents s.cfg s.mcs snap fails)
    chip := { s.chip with regs := cs.foldl (tickChannelRegs s.cfg snap fails) s.chip.regs }
    env := s.env.dropBus (tickTransfersOf s.cfg snap fails cs) }

section channels
variable {s : State} {snap : Snapshot} {fails : TickFailures} {c : Channel} {cs : List Channel}

theorem afterChannels_nil : afterChannels snap fails [] s = s := by
  simp [afterChannels, tickTransfersOf]

theorem tickTransfersOf_nil (cfg : Config) (snap : Snapshot) (fails : TickFailures) :
    tickTransfersOf cfg snap fails [] = 0 := rfl

theorem tickTransfersOf_cons (cfg : Config) (snap : Snapshot) (fails : TickFailures) (c : Channel)
    (cs : List Channel) : tickTransfersOf cfg snap fails (c :: cs) =
      tickChannelTransfers cfg snap fails c + tickTransfersOf cfg snap fails cs := by
  simp [tickTransfersOf]

theorem tickTransfersOf_append (cfg : Config) (snap : Snapshot) (fails : TickFailures) (cs ds : List Channel) :
    tickTransfersOf cfg snap fails (cs ++ ds) =
      tickTransfersOf cfg snap fails cs + tickTransfersOf cfg snap fails ds := by
  simp [tickTransfersOf]

theorem afterChannels_cons :
    afterChannels snap fails (c :: cs) s = afterChannels snap fails cs (afterChannels snap fails [c] s) := by
  simp only [afterChannels, List.foldl_cons, List.foldl_nil, List.flatMap_cons, List.flatMap_nil, List.append_nil,
    List.append_assoc, List.getLastD_cons, List.getLastD_nil, tickTransfersOf_cons, tickTransfersOf_nil,
    Nat.add_zero, dropBus_dropBus]

/-- Which transfers answer rests on the bus's answers alone. -/
theorem tickAnswers_congr {cfg : Config} {e e' : Env} (cs : List Channel) (h : e.bus = e'.bus) :
    tickAnswers cfg snap fails cs e = tickAnswers cfg snap fails cs e' := by
  induction cs generalizing e e' with
  | nil => rfl
  | cons c rest ih =>
    rw [tickAnswers, tickAnswers, ih (e' := e'.dropBus _) (by rw [dropBus_bus, dropBus_bus, h])]
    simp only [busOkFor_congr _ h, busFailsAt_congr _ _ h]

theorem tickAnswers_cons {cfg : Config} {e : Env} : tickAnswers cfg snap fails (c :: cs) e = true ↔
    tickAnswers cfg snap fails [c] e = true ∧
      tickAnswers cfg snap fails cs (e.dropBus (tickChannelTransfers cfg snap fails c)) = true := by
  simp [tickAnswers]

/-- One channel of a tick, where no calibration starts at it (43_control_loop.md R237, R238). -/
theorem actuateChannel_quiet (hw : s.cfg.wf = true) (hsnap : s.snap = snap)
    (hq : c = s.cfg.motorCh → ¬ startsCal s snap) (ha : tickAnswers s.cfg snap fails [c] s.env = true) :
    actuateChannel c s = .done () (afterChannels snap fails [c] s) := by
  subst hsnap
  simp only [tickAnswers, Bool.and_true] at ha
  rw [actuateChannel]
  cases hd : tickDuty s.cfg s.snap c with
  | none =>
    rw [channelWrite_rejected (by exact hd)]
    simp [afterChannels, tickTransfersOf, tickChannelErr, tickChannelEvents, tickChannelRegs, tickChannelTransfers, hd]
  | some d =>
    have hquiet : c = s.cfg.motorCh → ¬ calDue true s := fun hc ⟨hm, _, hpol, hatt⟩ =>
      hq hc ⟨hm, hpol, hatt, by rw [← hc, hd]; rfl⟩
    rw [channelWrite_quiet (by exact hd) (by exact hquiet)]
    simp only [hd] at ha
    cases hf : fails c with
    | none =>
      simp only [hf] at ha
      rw [loggedWrite_ok (by exact hw) (by exact ha)]
      simp [afterChannels, tickTransfersOf, tickChannelErr, tickChannelEvents, tickChannelRegs, tickChannelTransfers,
        hd, hf, uncalEvents]
    | some f =>
      simp only [hf] at ha
      rw [loggedWrite_failed (f := f) (by exact hw) (by exact ha)]
      simp [afterChannels, tickTransfersOf, tickChannelErr, tickChannelEvents, tickChannelRegs, tickChannelTransfers,
        hd, hf, uncalEvents]

/-- The channels one after another, where no calibration starts at any of them. -/
theorem actuateChannels_quiet (hw : s.cfg.wf = true) (hsnap : s.snap = snap)
    (hq : s.cfg.motorCh ∈ cs → ¬ startsCal s snap) (ha : tickAnswers s.cfg snap fails cs s.env = true) :
    runSteps (cs.map actuateChannel) s = .done () (afterChannels snap fails cs s) := by
  induction cs generalizing s with
  | nil => rw [afterChannels_nil]; rfl
  | cons c rest ih =>
    obtain ⟨hac, harest⟩ := tickAnswers_cons.1 ha
    have hone := actuateChannel_quiet hw hsnap (fun hc => hq (hc ▸ List.mem_cons_self)) hac
    have hrest : tickAnswers s.cfg snap fails rest (afterChannels snap fails [c] s).env = true := by
      rw [← harest]
      exact tickAnswers_congr rest (by simp [afterChannels, tickTransfersOf])
    rw [List.map_cons, runSteps_cons, hone, andThen_done, afterChannels_cons (cs := rest)]
    exact ih (s := afterChannels snap fails [c] s) hw hsnap (fun hmem => hq (List.mem_cons_of_mem c hmem)) hrest

end channels

/-- Settles O44: the snapshot taken, the sixteen channels, the sleep. -/
theorem tickActuatesEveryChannel : Obligations.TickActuatesEveryChannel := by
  intro s h r snap fails hw hh hterm hclear hgot hvalid hcal ha
  have hacts : ActsOn s r snap := ⟨by simp [hh], hterm, hclear, hgot⟩
  have hanswers := tickAnswers_congr (cfg := s.cfg) (snap := snap) (fails := fails) (e := (snapTaken r snap s).env)
    (e' := s.env) channels rfl
  have hrun := actuateChannels_quiet (s := snapTaken r snap s) (snap := snap) (fails := fails) (cs := channels) hw rfl
    (fun _ => hcal) (hanswers.trans ha)
  rw [exec_opTick_actsOn hacts, actuate_valid (by exact hvalid), hrun]
  rfl

end Sys2Proof.Machine
end

section
/-! What the channels of a valid tick leave in the chip's registers (43_control_loop.md R237, R242(b),
70_reset_and_hazards.md R320). -/
namespace Sys2Proof.Machine

/-! ### The writes of one channel -/

/-- The register memory after the writes of these edge registers of a channel (40_register_protocol.md R144). -/
def edgesWritten (cfg : Config) (c : Channel) (d : Duty) (xs : List Edge) (m : Memory) : Memory :=
  xs.foldl (fun m x => m.write (edgeAddr cfg c x).toNat (edgeData d x)) m

theorem stoppedRegs_eq (cfg : Config) (c : Channel) (d : Duty) (f : FailedWrite) (m : Memory) :
    stoppedRegs cfg c d f m = edgesWritten cfg c d
      (edgeOrder.take (if 2 ≤ f.delivered then writesBefore f.edge + 1 else writesBefore f.edge)) m := rfl

section registers
variable {cfg : Config} {snap : Snapshot} {fails : TickFailures} {c : Channel} {d : Duty} {a : Nat} {m : Memory}

theorem edgesWritten_cons (x : Edge) (xs : List Edge) : edgesWritten cfg c d (x :: xs) m =
    edgesWritten cfg c d xs (m.write (edgeAddr cfg c x).toNat (edgeData d x)) := rfl

theorem edgesWritten_other (xs : List Edge) (ha : ∀ x, a ≠ (edgeAddr cfg c x).toNat) :
    (edgesWritten cfg c d xs m).read a = m.read a := by
  induction xs generalizing m with
  | nil => rfl
  | cons x rest ih => rw [edgesWritten_cons, ih, Memory.read_write_other _ _ _ _ (ha x)]

/-- Each register written holds its byte, the channel's others what they held. -/
theorem edgesWritten_read (hw : cfg.wf = true) (xs : List Edge) (x : Edge) :
    (edgesWritten cfg c d xs m).read (edgeAddr cfg c x).toNat =
      if x ∈ xs then some (edgeData d x) else m.read (edgeAddr cfg c x).toNat := by
  induction xs generalizing m with
  | nil => simp [edgesWritten]
  | cons y rest ih =>
    rw [edgesWritten_cons, ih, Memory.read_write]
    by_cases hx : x ∈ rest
    · simp [hx]
    · by_cases hxy : x = y
      · simp [hxy]
      · simp [hx, hxy, edgeAddr_toNat_inj hw]

theorem mem_take_edgeOrder (n : Nat) (x : Edge) : x ∈ edgeOrder.take n ↔ writesBefore x < n := by
  rcases n with _ | _ | _ | _ | n <;> cases x <;> simp [edgeOrder, writesBefore]

theorem writesBefore_injective {x y : Edge} (h : writesBefore x = writesBefore y) : x = y := by
  revert h
  cases x <;> cases y <;> decide

/-- The registers the chip has when the write of `x` fails, `n` of its bytes having arrived (log 11). -/
theorem mem_take_arrived (n : Nat) (x y : Edge) :
    y ∈ edgeOrder.take (if 2 ≤ n then writesBefore x + 1 else writesBefore x) ↔
      writesBefore y < writesBefore x ∨ (y = x ∧ 2 ≤ n) := by
  have heq : y = x ↔ writesBefore y = writesBefore x := ⟨congrArg _, writesBefore_injective⟩
  rw [mem_take_edgeOrder, heq]
  split <;> omega

/-! ### One channel of a tick -/

theorem tickChannelRegs_none (hd : tickDuty cfg snap c = none) : tickChannelRegs cfg snap fails m c = m := by
  simp [tickChannelRegs, hd]

theorem tickChannelRegs_ok (hd : tickDuty cfg snap c = some d) (hf : fails c = none) :
    tickChannelRegs cfg snap fails m c = edgesWritten cfg c d edgeOrder m := by
  simp only [tickChannelRegs, hd, hf]
  rfl

theorem tickChannelRegs_failed {f : FailedWrite} (hd : tickDuty cfg snap c = some d) (hf : fails c = some f) :
    tickChannelRegs cfg snap fails m c = stoppedRegs cfg c d f m := by
  simp only [tickChannelRegs, hd, hf]

/-- A channel's writes leave every address alone that is none of its own, and a rejected fraction leaves all. -/
theorem tickChannelRegs_other (ha : (tickDuty cfg snap c).isSome = true → ∀ x, a ≠ (edgeAddr cfg c x).toNat) :
    (tickChannelRegs cfg snap fails m c).read a = m.read a := by
  cases hd : tickDuty cfg snap c with
  | none => rw [tickChannelRegs_none hd]
  | some d =>
    have hne : ∀ x, a ≠ (edgeAddr cfg c x).toNat := ha (by rw [hd]; rfl)
    cases hf : fails c with
    | none => rw [tickChannelRegs_ok hd hf, edgesWritten_other _ hne]
    | some f => rw [tickChannelRegs_failed hd hf, stoppedRegs_eq, edgesWritten_other _ hne]

/-! ### The channels of a tick -/

theorem tickRegs_other (cs : List Channel)
    (ha : ∀ c ∈ cs, (tickDuty cfg snap c).isSome = true → ∀ x, a ≠ (edgeAddr cfg c x).toNat) :
    (cs.foldl (tickChannelRegs cfg snap fails) m).read a = m.read a := by
  induction cs generalizing m with
  | nil => rfl
  | cons c rest ih =>
    rw [List.foldl_cons, ih fun b hb => ha b (List.mem_cons_of_mem c hb),
      tickChannelRegs_other (ha c List.mem_cons_self)]

/-- Channels other than `c` leave its registers alone. -/
theorem tickRegs_otherChannels (hw : cfg.wf = true) {cs : List Channel} (hc : c ∉ cs) (x : Edge) :
    (cs.foldl (tickChannelRegs cfg snap fails) m).read (edgeAddr cfg c x).toNat = m.read (edgeAddr cfg c x).toNat :=
  tickRegs_other cs fun _ hb _ _ he => hc (((edgeAddr_toNat_inj hw).1 he).1 ▸ hb)

/-- The channel's turn among the sixteen: those before it and those after it are others. -/
theorem channels_split (c : Channel) : channels = channels.take c.val ++ c :: channels.drop (c.val + 1) ∧
    c ∉ channels.take c.val ∧ c ∉ channels.drop (c.val + 1) := by
  revert c
  decide

/-- After the tick a channel's registers are what its own writes left, begun on the registers as they were. -/
theorem tickRegs_own (hw : cfg.wf = true) (c : Channel) (x : Edge) :
    ∃ m', m'.read (edgeAddr cfg c x).toNat = m.read (edgeAddr cfg c x).toNat ∧
      (channels.foldl (tickChannelRegs cfg snap fails) m).read (edgeAddr cfg c x).toNat =
        (tickChannelRegs cfg snap fails m' c).read (edgeAddr cfg c x).toNat := by
  obtain ⟨hsplit, hbefore, hafter⟩ := channels_split c
  refine ⟨(channels.take c.val).foldl (tickChannelRegs cfg snap fails) m, tickRegs_otherChannels hw hbefore x, ?_⟩
  rw [congrArg (List.foldl (tickChannelRegs cfg snap fails) m) hsplit, List.foldl_append, List.foldl_cons,
    tickRegs_otherChannels hw hafter]

end registers

/-! ### The fraction of a channel -/

theorem tickDuty_inactive (cfg : Config) {snap : Snapshot} {c : Channel} (h : (snap.ch.get c).active = 0) :
    tickDuty cfg snap c = some (neutralDuty (cfg.cal.get c)) := by
  have hfraction : commandedFraction snap c = neutralWord := if_neg (by rw [h]; decide)
  rw [tickDuty, hfraction, mapDuty_neutralWord]

theorem tickDuty_active (cfg : Config) {snap : Snapshot} {c : Channel} (h : (snap.ch.get c).active ≠ 0) :
    tickDuty cfg snap c = mapDuty (cfg.cal.get c) (snap.ch.get c).pulseFrac := by
  have hfraction : commandedFraction snap c = (snap.ch.get c).pulseFrac := if_pos (bne_iff_ne.2 h)
  rw [tickDuty, hfraction]

/-- Settles O45: a channel's registers are written in its own turn alone. -/
theorem tickLeavesEachChannelItsDuty : Obligations.TickLeavesEachChannelItsDuty := by
  intro cfg snap fails m hw after
  refine ⟨fun c d x hd hf => ?_, fun c d f x hd hf => ?_, fun c => tickDuty_inactive cfg,
    fun c => tickDuty_active cfg, fun a ha => tickRegs_other channels fun c _ hd x => ha c x hd⟩
  · obtain ⟨m', -, hread⟩ := tickRegs_own (snap := snap) (fails := fails) (m := m) hw c x
    have hmem : x ∈ edgeOrder := by cases x <;> decide
    rw [hread, tickChannelRegs_ok hd hf, edgesWritten_read hw, if_pos hmem]
  · obtain ⟨m', hm, hread⟩ := tickRegs_own (snap := snap) (fails := fails) (m := m) hw c x
    rw [hread, tickChannelRegs_failed hd hf, stoppedRegs_eq, edgesWritten_read hw, hm]
    simp only [mem_take_arrived]

end Sys2Proof.Machine
end

section
/-! The tick that starts the calibration (43_control_loop.md R231, R238): the channels before the motor's, CAL with its
error absorbed, and the rest as in any other tick. -/
namespace Sys2Proof.Machine

/-! ### CAL, its error absorbed -/

section cal
variable {s u : State} {f : Fault}

/-- CAL issued by itself differs from CAL of a tick in the ERR it begins with (60_exceptions.md R270). -/
theorem exec_opCal_eq (s : State) : exec .opCal s = ((calOp s).withErrIdx ⟨0, 0⟩ s.seq.idx).outcome := by
  rw [exec_opCal, clearErr_eq_withErrIdx, errByRaise_calOp.blind]

/-- The state CAL leaves where the caller absorbs its error: without one ERR is as it was (60_exceptions.md R279). -/
def errKept (s u : State) : State := { u with err := if u.err.code = 0 then s.err else u.err }

theorem calOp_absorbed (h : exec .opCal s = .next u) : (calOp s).absorb keepGoing = .done () (errKept s u) := by
  rw [exec_opCal_eq] at h
  cases hcal : calOp s with
  | done x t =>
    rw [hcal] at h
    obtain ⟨herr, hidx⟩ := errByRaise_calOp.of_done hcal
    obtain rfl : withErrIdx ⟨0, 0⟩ s.seq.idx t = u := Host.Outcome.next.inj h
    simp [errKept, withErrIdx, ← herr, ← hidx]
  | raised e t =>
    rw [hcal] at h
    obtain ⟨herr, hidx⟩ := errByRaise_calOp.of_raised hcal
    have hcode : t.err.code ≠ 0 := by rw [herr]; exact (errCode_bounds e.kind).2
    obtain rfl : withErrIdx t.err s.seq.idx t = u := Host.Outcome.next.inj h
    rw [errKept, if_neg (by exact hcode), ← hidx]
    rfl
  | stopped x =>
    rw [hcal] at h
    cases h

theorem calOp_of_fault (h : exec .opCal s = .fault f) : calOp s = .stopped f := by
  rw [exec_opCal_eq] at h
  cases hcal : calOp s with
  | stopped x =>
    rw [hcal] at h
    rw [Host.Outcome.fault.inj h]
  | _ =>
    rw [hcal] at h
    cases h

/-- A CAL that is not done already counts as attempted, whatever it comes to (42_motor_calibration.md R210). -/
theorem calOp_attempts (hh : s.handle.isSome = true) (hm : s.mcs ≠ .done) :
    (calOp s).Holds (fun _ t => t.calAttempted = true) fun _ t => t.calAttempted = true := by
  rcases cal_conditions s with hdone | ⟨-, hr⟩ | ⟨-, -, hnone⟩ | ⟨-, hr, h, hsome⟩
  · exact absurd hdone hm
  · rw [calOp_of_no_handshake hm hr]
    rfl
  · rw [hnone] at hh
    cases hh
  · have hP : Closed HandshakeUpdate fun t => t.calAttempted = true := Closed.view _ _ fun _ _ h => by rw [h.frame]
    rw [calOp_handshake hsome hm hr]
    exact holds_mono (hP.keeps_runHandshake (s := { s with calAttempted := true }) rfl) (fun _ _ h => h.1)
      fun _ _ h => h.1

/-- What a CAL that is not done already leaves of the state it began in. -/
theorem exec_opCal_frame (h : exec .opCal s = .next u) (hh : s.handle.isSome = true) (hm : s.mcs ≠ .done) :
    u.cfg = s.cfg ∧ u.snap = s.snap ∧ u.calAttempted = true ∧ u.seq = s.seq := by
  have hP : Closed CalUpdate fun t => (t.cfg, t.snap) = (s.cfg, s.snap) :=
    Closed.view (fun t => (t.cfg, t.snap)) _ fun _ _ h => by rw [h.frame]
  obtain ⟨hpair, hphase, -⟩ := outcome_next_holds (r := calOp (clearErr s)) h (hP.keeps_calOp rfl)
  obtain ⟨hcfg, hsnap⟩ := Prod.mk.inj hpair
  have hidx : u.seq.idx = s.seq.idx := by
    rcases outcome_next h with hdone | ⟨e, hraised⟩
    · exact (errByRaise_calOp.of_done hdone).2
    · exact (errByRaise_calOp.of_raised hraised).2
  have hatt := outcome_next_holds h (calOp_attempts (s := clearErr s) hh hm)
  have hseq : u.seq = ⟨u.seq.phase, u.seq.idx⟩ := rfl
  rw [hphase, hidx] at hseq
  exact ⟨hcfg, hsnap, hatt, hseq⟩

end cal

/-! ### The motor channel -/

section motor
variable {s t : State} {c : Channel} {f : Fault}

/-- The state with SEQ.idx at a channel (43_control_loop.md R237). -/
def atChannel (c : Channel) (s : State) : State := { s with seq := { s.seq with idx := c } }

theorem atChannel_self (h : s.seq.idx = c) : atChannel c s = s := by
  subst h
  rfl

theorem actuateChannel_eq (c : Channel) (s : State) :
    actuateChannel c s = channelWrite c (commandedFraction s.snap c) true (atChannel c s) := rfl

/-- Once CAL has come back the motor channel is written as in a tick in which no calibration starts. -/
theorem actuateChannel_calibrated (hc : c = s.cfg.motorCh) (hdue : startsCal s s.snap)
    (hcal : (calOp (atChannel c s)).absorb keepGoing = .done () t) (hcfg : t.cfg = s.cfg) (hsnap : t.snap = s.snap)
    (hatt : t.calAttempted = true) (hidx : t.seq.idx = c) : actuateChannel c s = actuateChannel c t := by
  obtain ⟨hm, hpol, hunattempted, hsome⟩ := hdue
  obtain ⟨d, hd⟩ := Option.isSome_iff_exists.1 hsome
  rw [← hc] at hd
  have hdt : mapDuty (t.cfg.cal.get c) (commandedFraction t.snap c) = some d := by rw [hcfg, hsnap]; exact hd
  have hquiet : c = t.cfg.motorCh → ¬ calDue true t := fun _ hdue => by
    rw [calDue, hatt] at hdue
    exact absurd hdue.2.2.2 (by decide)
  have huncal : uncalEvents t.cfg t.mcs c = if t.mcs = .done then [] else [.log .uncal (channelInfo c)] := by
    rw [hc, ← hcfg, uncalEvents_motorCh]
  rw [actuateChannel_eq, channelWrite_mapped (d := d) (by exact hd),
    motorPreamble_due (s := atChannel c s) hc ⟨hm, rfl, hpol, hunattempted⟩, hcal, andThen_done, logUncal_eq,
    andThen_done, actuateChannel_eq, atChannel_self hidx, channelWrite_quiet hdt hquiet, huncal]

/-- Where CAL stops the machine so does the motor channel's turn (70_reset_and_hazards.md R333). -/
theorem actuateChannel_stopped (hc : c = s.cfg.motorCh) (hdue : startsCal s s.snap)
    (hcal : calOp (atChannel c s) = .stopped f) : actuateChannel c s = .stopped f := by
  obtain ⟨hm, hpol, hunattempted, hsome⟩ := hdue
  obtain ⟨d, hd⟩ := Option.isSome_iff_exists.1 hsome
  rw [← hc] at hd
  rw [actuateChannel_eq, channelWrite_mapped (d := d) (by exact hd),
    motorPreamble_due (s := atChannel c s) hc ⟨hm, rfl, hpol, hunattempted⟩, hcal]
  rfl

end motor

/-! ### The tick -/

section tick
variable {s u : State} {r : F64} {snap : Snapshot} {fails : TickFailures} {f : Fault}

theorem channels_drop (c : Channel) : channels.drop c.val = c :: channels.drop (c.val + 1) := by
  revert c
  decide

theorem channels_drop_getLastD (c i : Channel) : (channels.drop c.val).getLastD i = 15 := by
  revert c i
  decide

/-- The channels before the motor's bring the tick to the state in which CAL begins, but for SEQ.idx. -/
theorem atMotorChannel_eq (s : State) (r : F64) (snap : Snapshot) (fails : TickFailures) :
    atChannel s.cfg.motorCh
      (afterChannels snap fails (channels.take s.cfg.motorCh.val) (snapTaken r snap s)) =
      atMotorChannel s r snap fails := rfl

/-- The tick is the channels before the motor's, and then the motor's and the rest. -/
theorem exec_opTick_split (hw : s.cfg.wf = true) (hs : ActsOn s r snap) (hvalid : snap.valid ≠ 0)
    (ha : tickAnswers s.cfg snap fails (channels.take s.cfg.motorCh.val) s.env = true) :
    exec .opTick s = ((runSteps ((channels.drop s.cfg.motorCh.val).map actuateChannel)
      (afterChannels snap fails (channels.take s.cfg.motorCh.val) (snapTaken r snap s))).andThen
        fun _ u => delay .tick u).outcome := by
  have hanswers := tickAnswers_congr (cfg := s.cfg) (snap := snap) (fails := fails) (e := (snapTaken r snap s).env)
    (e' := s.env) (channels.take s.cfg.motorCh.val) rfl
  have hearlier := actuateChannels_quiet (s := snapTaken r snap s) (snap := snap) (fails := fails)
    (cs := channels.take s.cfg.motorCh.val) hw rfl
    (fun hmem => absurd hmem (channels_split s.cfg.motorCh).2.1) (hanswers.trans ha)
  have hsplit : channels.map actuateChannel = (channels.take s.cfg.motorCh.val).map actuateChannel ++
      (channels.drop s.cfg.motorCh.val).map actuateChannel := by
    rw [← List.map_append, List.take_append_drop]
  rw [exec_opTick_actsOn hs, actuate_valid (by exact hvalid), hsplit, runSteps_append, hearlier, andThen_done]

/-- The tick that starts the calibration, CAL having come back (43_control_loop.md R238). -/
theorem exec_opTick_calibrates (hw : s.cfg.wf = true) (hs : ActsOn s r snap) (hvalid : snap.valid ≠ 0)
    (hdue : startsCal s snap)
    (ha : tickAnswers s.cfg snap fails (channels.take s.cfg.motorCh.val) s.env = true)
    (hcal : exec .opCal (atMotorChannel s r snap fails) = .next u)
    (hlater : tickAnswers s.cfg snap fails (channels.drop s.cfg.motorCh.val) u.env = true) :
    exec .opTick s = (delay .tick (afterChannels snap fails (channels.drop s.cfg.motorCh.val)
      (errKept (atMotorChannel s r snap fails) u))).outcome := by
  obtain ⟨hcfg, hsnap, hatt, hseq⟩ := exec_opCal_frame hcal hs.handle hdue.1
  have habsorbed := calOp_absorbed hcal
  rw [← atMotorChannel_eq] at habsorbed
  have hmotor := actuateChannel_calibrated (c := s.cfg.motorCh)
    (s := afterChannels snap fails (channels.take s.cfg.motorCh.val) (snapTaken r snap s)) rfl hdue habsorbed
    hcfg hsnap hatt (by rw [errKept, hseq]; rfl)
  have hrest := actuateChannels_quiet (s := errKept (atMotorChannel s r snap fails) u) (snap := snap) (fails := fails)
    (cs := channels.drop s.cfg.motorCh.val) (by rw [errKept, hcfg]; exact hw) hsnap
    (fun _ hstarts => absurd (hstarts.2.2.1.symm.trans hatt) (by decide)) (by rw [errKept, hcfg]; exact hlater)
  rw [channels_drop, List.map_cons, runSteps_cons] at hrest
  rw [exec_opTick_split hw hs hvalid ha, channels_drop, List.map_cons, runSteps_cons, hmotor, atMotorChannel_eq, hrest,
    andThen_done]

theorem exec_opTick_stopped (hw : s.cfg.wf = true) (hs : ActsOn s r snap) (hvalid : snap.valid ≠ 0)
    (hdue : startsCal s snap)
    (ha : tickAnswers s.cfg snap fails (channels.take s.cfg.motorCh.val) s.env = true)
    (hcal : exec .opCal (atMotorChannel s r snap fails) = .fault f) : exec .opTick s = .fault f := by
  have hmotor := actuateChannel_stopped (c := s.cfg.motorCh)
    (s := afterChannels snap fails (channels.take s.cfg.motorCh.val) (snapTaken r snap s)) rfl hdue
    (calOp_of_fault hcal)
  rw [exec_opTick_split hw hs hvalid ha, channels_drop, List.map_cons, runSteps_cons, hmotor]
  rfl

/-- Whatever CAL comes to, the tick is the channels before the motor's, CAL, and the motor's and the rest. -/
theorem exec_opTick_afterCal (hw : s.cfg.wf = true) (hs : ActsOn s r snap) (hvalid : snap.valid ≠ 0)
    (hdue : startsCal s snap)
    (ha : tickAnswers s.cfg snap fails (channels.take s.cfg.motorCh.val) s.env = true)
    (hcal : exec .opCal (atMotorChannel s r snap fails) = .next u)
    (hlater : tickAnswers s.cfg snap fails (channels.drop s.cfg.motorCh.val) u.env = true) :
    let start := atMotorChannel s r snap fails
    let later := channels.drop s.cfg.motorCh.val
    exec .opTick s = .next { u with
      err := later.foldl (tickChannelErr s.cfg snap fails) (if u.err.code = 0 then start.err else u.err)
      seq := ⟨s.seq.phase, 15⟩
      tr := u.tr ++ later.flatMap (tickChannelEvents s.cfg u.mcs snap fails) ++ [.delay .tick]
      chip := { u.chip with regs := later.foldl (tickChannelRegs s.cfg snap fails) u.chip.regs }
      env := u.env.dropBus (tickTransfersOf s.cfg snap fails later) } := by
  obtain ⟨hcfg, -, -, hseq⟩ := exec_opCal_frame hcal hs.handle hdue.1
  have hcfg : u.cfg = s.cfg := hcfg
  have hphase : u.seq.phase = s.seq.phase := by rw [hseq]; rfl
  rw [exec_opTick_calibrates hw hs hvalid hdue ha hcal hlater, afterChannels, channels_drop_getLastD, errKept]
  simp only [hcfg, hphase, delay_eq, emit, outcome_done]

end tick

/-! ### The tick in which every action succeeds -/

/-- The state after a CAL in which every action succeeds, with a handshake or without (42_motor_calibration.md
R202 to R207, R212). -/
def calibrated (s : State) : State :=
  { s with
    err := ⟨0, 0⟩
    calAttempted := true
    mcs := .done
    gpioSetting := if s.cfg.requiresHandshake then settingAfterCal s.cfg else s.gpioSetting
    gpioPower := if s.cfg.requiresHandshake then powerAfterCal s.cfg s.gpioPower else s.gpioPower
    tr := s.tr ++ if s.cfg.requiresHandshake then calEvents s.cfg else []
    chip := { s.chip with regs := if s.cfg.requiresHandshake then calRegs s.cfg s.chip.regs else s.chip.regs }
    env := ((s.env.dropBus (if s.cfg.requiresHandshake then 12 else 0)).dropGpio
      (lazyTickGpioActions s.cfg)).dropRelease (lazyTickReleases s.cfg) }

section success
variable {s : State} {snap : Snapshot} {fails : TickFailures}

theorem exec_opCal_succeeds (hw : s.cfg.wf = true) (hh : s.handle.isSome = true) (hm : s.mcs ≠ .done)
    (hbus : s.env.busOkFor (if s.cfg.requiresHandshake then 12 else 0) = true)
    (hgpio : s.env.gpioOkFor (lazyTickGpioActions s.cfg) = true)
    (hrel : s.env.releasesFor (lazyTickReleases s.cfg) = true) : exec .opCal s = .next (calibrated s) := by
  obtain ⟨h, hh⟩ := Option.isSome_iff_exists.1 hh
  cases hr : s.cfg.requiresHandshake with
  | false =>
    rw [(calWithoutHandshakeTrustsAtOnce s hr hm).1]
    simp [calibrated, lazyTickGpioActions, lazyTickReleases, hr]
  | true =>
    simp only [lazyTickGpioActions, lazyTickReleases, hr, if_true] at hbus hgpio hrel
    rw [calHandshakeRunsFiveTransitions s h hw hh hm hr hbus hgpio hrel]
    simp [calibrated, lazyTickGpioActions, lazyTickReleases, hr]

/-- Channels none of whose writes fails are answered `ok` throughout. -/
theorem tickAnswers_noFailures (cfg : Config) (snap : Snapshot) (cs : List Channel) (e : Env) :
    tickAnswers cfg snap noFailures cs e = true ↔ e.busOkFor (tickTransfersOf cfg snap noFailures cs) = true := by
  induction cs generalizing e with
  | nil => simp [tickAnswers, tickTransfersOf, Env.busOkFor]
  | cons c rest ih =>
    have hone : tickAnswers cfg snap noFailures [c] e = e.busOkFor (tickChannelTransfers cfg snap noFailures c) := by
      cases hd : tickDuty cfg snap c <;>
        simp [tickAnswers, tickChannelTransfers, noFailures, hd, Env.busOkFor]
    rw [tickAnswers_cons, tickTransfersOf_cons, busOkFor_add, ih, hone]

/-! ### Such a tick channel by channel -/

variable {cfg : Config} {c : Channel}

/-- The events of a channel that is not the motor's do not rest on MCS. -/
theorem tickChannelEvents_mcs (hc : c ≠ cfg.motorCh) (m m' : Mcs) :
    tickChannelEvents cfg m snap fails c = tickChannelEvents cfg m' snap fails c := by
  simp [tickChannelEvents, hc]

theorem lazyTickEvents_other (hc : c ≠ cfg.motorCh) (m : Mcs) :
    lazyTickEvents cfg snap c = tickChannelEvents cfg m snap noFailures c := by
  rw [lazyTickEvents, if_neg (fun h => hc h.1), List.nil_append, tickChannelEvents_mcs hc .done m]

theorem lazyTickEvents_motor (cfg : Config) (snap : Snapshot) : lazyTickEvents cfg snap cfg.motorCh =
    (if cfg.requiresHandshake then calEvents cfg else []) ++
      tickChannelEvents cfg .done snap noFailures cfg.motorCh := by
  simp [lazyTickEvents]

theorem lazyTickRegs_other (hc : c ≠ cfg.motorCh) (m : Memory) :
    lazyTickRegs cfg snap m c = tickChannelRegs cfg snap noFailures m c := by
  rw [lazyTickRegs, if_neg fun h => hc h.1]

theorem lazyTickRegs_motor (cfg : Config) (snap : Snapshot) (m : Memory) : lazyTickRegs cfg snap m cfg.motorCh =
    tickChannelRegs cfg snap noFailures (if cfg.requiresHandshake then calRegs cfg m else m) cfg.motorCh := by
  simp [lazyTickRegs]

/-- The trace of the tick: the earlier channels', the handshake's, the motor channel's and the later ones'. -/
theorem lazyTickEvents_split (cfg : Config) (snap : Snapshot) (m : Mcs) :
    channels.flatMap (lazyTickEvents cfg snap) =
      (channels.take cfg.motorCh.val).flatMap (tickChannelEvents cfg m snap noFailures) ++
        (if cfg.requiresHandshake then calEvents cfg else []) ++
        (channels.drop cfg.motorCh.val).flatMap (tickChannelEvents cfg .done snap noFailures) := by
  obtain ⟨hsplit, hbefore, hafter⟩ := channels_split cfg.motorCh
  have hearlier := List.flatMap_congr fun c hc => lazyTickEvents_other (snap := snap)
    (ne_of_mem_of_not_mem hc hbefore) m
  have hlater := List.flatMap_congr fun c hc => lazyTickEvents_other (snap := snap)
    (ne_of_mem_of_not_mem hc hafter) .done
  rw [congrArg (List.flatMap (lazyTickEvents cfg snap)) hsplit, List.flatMap_append, List.flatMap_cons, hearlier,
    hlater, lazyTickEvents_motor, channels_drop, List.flatMap_cons]
  simp only [List.append_assoc]

theorem lazyTickRegs_split (cfg : Config) (snap : Snapshot) (m : Memory) :
    channels.foldl (lazyTickRegs cfg snap) m =
      let before := (channels.take cfg.motorCh.val).foldl (tickChannelRegs cfg snap noFailures) m
      (channels.drop cfg.motorCh.val).foldl (tickChannelRegs cfg snap noFailures)
        (if cfg.requiresHandshake then calRegs cfg before else before) := by
  obtain ⟨hsplit, hbefore, hafter⟩ := channels_split cfg.motorCh
  have hearlier := List.foldl_ext _ _ m fun m' c hc => lazyTickRegs_other (snap := snap)
    (ne_of_mem_of_not_mem hc hbefore) m'
  have hlater := fun a => List.foldl_ext _ _ a fun m' c hc => lazyTickRegs_other (snap := snap)
    (ne_of_mem_of_not_mem hc hafter) m'
  rw [congrArg (List.foldl (lazyTickRegs cfg snap) m) hsplit, List.foldl_append, List.foldl_cons, hearlier, hlater,
    lazyTickRegs_motor, channels_drop, List.foldl_cons]

theorem tickErr_split (cfg : Config) (snap : Snapshot) (e : ErrReg) (n : Nat) :
    (channels.drop n).foldl (tickChannelErr cfg snap fails)
      ((channels.take n).foldl (tickChannelErr cfg snap fails) e) =
      channels.foldl (tickChannelErr cfg snap fails) e := by
  rw [← List.foldl_append, List.take_append_drop]

theorem lazyTickTransfers_split (cfg : Config) (snap : Snapshot) (n : Nat) : lazyTickTransfers cfg snap =
    tickTransfersOf cfg snap noFailures (channels.take n) +
      ((if cfg.requiresHandshake then 12 else 0) + tickTransfersOf cfg snap noFailures (channels.drop n)) := by
  rw [lazyTickTransfers, tickTransfers, ← List.take_append_drop n channels, tickTransfersOf_append,
    List.take_append_drop]
  omega

end success

/-- Where the answers after the earlier channels' are all `ok`, CAL of the tick succeeds. -/
theorem exec_opCal_atMotorChannel {s : State} {r : F64} {snap : Snapshot} (hw : s.cfg.wf = true)
    (hh : s.handle.isSome = true) (hm : s.mcs ≠ .done)
    (hbus : (s.env.dropBus (tickTransfersOf s.cfg snap noFailures (channels.take s.cfg.motorCh.val))).busOkFor
      (if s.cfg.requiresHandshake then 12 else 0) = true)
    (hgpio : s.env.gpioOkFor (lazyTickGpioActions s.cfg) = true)
    (hrel : s.env.releasesFor (lazyTickReleases s.cfg) = true) :
    exec .opCal (atMotorChannel s r snap noFailures) =
      .next (calibrated (atMotorChannel s r snap noFailures)) := by
  refine exec_opCal_succeeds hw hh hm ?_ ?_ ?_
  · refine Eq.trans ?_ hbus
    exact busOkFor_congr _ rfl
  · refine Eq.trans ?_ hgpio
    exact gpioOkFor_congr _ rfl
  · refine Eq.trans ?_ hrel
    exact releasesFor_congr _ rfl

/-- Settles O46: CAL comes between the channels before the motor's and the motor's own; where every action of it
succeeds, what it leaves is known. -/
theorem tickCalibratesOnFirstMotorWrite : Obligations.TickCalibratesOnFirstMotorWrite := by
  intro s h r snap hw hh hterm hclear hgot hvalid hdue
  have hs : ActsOn s r snap := ⟨by simp [hh], hterm, hclear, hgot⟩
  constructor
  · intro hbus hgpio hrel
    rw [lazyTickTransfers_split _ _ s.cfg.motorCh.val, busOkFor_add, busOkFor_add] at hbus
    obtain ⟨hearlier, hbuscal, hlater⟩ := hbus
    have hcal := exec_opCal_atMotorChannel (r := r) hw hs.handle hdue.1 hbuscal hgpio hrel
    have hanswers : tickAnswers s.cfg snap noFailures (channels.drop s.cfg.motorCh.val)
        (calibrated (atMotorChannel s r snap noFailures)).env = true := by
      rw [tickAnswers_noFailures, ← hlater]
      exact busOkFor_congr _ rfl
    rw [exec_opTick_afterCal hw hs hvalid hdue ((tickAnswers_noFailures _ _ _ _).2 hearlier) hcal hanswers,
      lazyTickEvents_split _ _ s.mcs, lazyTickRegs_split, ← tickErr_split _ _ _ s.cfg.motorCh.val,
      lazyTickTransfers_split _ _ s.cfg.motorCh.val]
    simp [calibrated, atMotorChannel, Env.dropBus, Env.dropGpio, Env.dropRelease, Nat.add_assoc]
  · intro fails start later ha
    exact ⟨fun u hcal hlater => ⟨(exec_opCal_frame hcal hs.handle hdue.1).2.2.1,
      exec_opTick_afterCal hw hs hvalid hdue ha hcal hlater⟩,
      fun f hcal => exec_opTick_stopped hw hs hvalid hdue ha hcal⟩

end Sys2Proof.Machine
end

section
/-! Whatever the other agents answer, a tick without TERM ends with its sleep (43_control_loop.md R234 to R239,
60_exceptions.md R278, R279): what can fail in it is absorbed where it stands, and nothing in it waits for ever. -/
namespace Sys2Proof.Machine

/-! ### Actions that absorb every error -/

/-- The configuration is well-formed and every answer still comes (00_scope.md R9, 70_reset_and_hazards.md R333). -/
def Answering (s : State) : Prop := s.cfg.wf = true ∧ s.env.responsive = true

/-- The action is done, with nothing raised and the machine not stopped, and leaves the answers coming. -/
def Act.Absorbs (a : Act) : Prop := ∀ s, Answering s → ∃ t, a s = .done () t ∧ Answering t

/-- Every operation leaves the answers coming. -/
theorem answering_opKept : OpKept Answering where
  write _ _ _ _ _ h _ _ := ⟨h.1, responsive_busTail h.2⟩
  read _ _ h _ := ⟨h.1, responsive_busTail h.2⟩
  readFail _ _ h _ := ⟨h.1, responsive_busTail h.2⟩
  raise _ _ _ h := h
  emitted _ _ _ _ h := h
  gpioTaken _ h := ⟨h.1, responsive_gpioTail h.2⟩
  releaseTaken _ h := ⟨h.1, responsive_releaseTail h.2⟩
  storageTaken _ h := h
  busOpenTaken _ h := h
  sensed _ _ h := ⟨h.1, responsive_sensorTail h.2⟩
  copied _ _ h := ⟨h.1, responsive_shmTail h.2⟩
  line _ l _ h := by cases l <;> exact h
  mcs _ _ h := h
  attempted _ h := h
  seq _ _ h := h
  active _ _ h := h
  handle _ _ h := h
  duty _ _ h := h
  presc _ _ h := h
  snapshot _ _ h := h
  cleared _ h := h

section absorbs
variable {a b : Act} {s : State}

theorem Act.Absorbs.andThen (ha : Act.Absorbs a) (hb : Act.Absorbs b) :
    Act.Absorbs fun s => (a s).andThen fun _ t => b t := by
  intro s hs
  obtain ⟨t, hdone, ht⟩ := ha s hs
  beta_reduce
  rw [hdone]
  exact hb t ht

theorem absorbs_runSteps {as : List Act} (h : ∀ a ∈ as, Act.Absorbs a) : Act.Absorbs (runSteps as) := by
  induction as with
  | nil => exact fun s hs => ⟨s, rfl, hs⟩
  | cons a rest ih => exact (h a List.mem_cons_self).andThen (ih fun b hb => h b (List.mem_cons_of_mem a hb))

/-- An action that comes to an end absorbs every error where its caller does (60_exceptions.md R278, R279). -/
theorem absorbs_absorb {policy : Raise → State → State} (hc : ∀ s, Answering s → (a s).Completes)
    (ha : Act.Keeps Answering a) (hp : ∀ e s, Answering s → Answering (policy e s)) :
    Act.Absorbs fun s => (a s).absorb policy := by
  intro s hs
  have hcompletes := hc s hs
  have hkept := ha s hs
  beta_reduce
  cases hr : a s with
  | done u t => rw [hr] at hkept; exact ⟨t, rfl, hkept⟩
  | raised e t => rw [hr] at hkept; exact ⟨policy e t, rfl, hp e t hkept⟩
  | stopped f => rw [hr] at hcompletes; exact hcompletes.elim

/-- What is followed by the sleep ends with it (43_control_loop.md R239). -/
theorem Act.Absorbs.sleeps (ha : Act.Absorbs a) (hs : Answering s) :
    ∃ t, ((a s).andThen fun _ u => delay .tick u) = .done () (emit (.delay .tick) t) := by
  obtain ⟨t, hdone, -⟩ := ha s hs
  exact ⟨t, by rw [hdone]; rfl⟩

end absorbs

/-! ### The channels of the tick -/

theorem calOp_completes {s : State} (hs : Answering s) : (calOp s).Completes := by
  obtain ⟨hw, hresp⟩ := hs
  have hrel := responsive_releasesFor hresp
  rcases cal_conditions s with hm | ⟨hm, hr⟩ | ⟨hm, hr, hh⟩ | ⟨hm, hr, h, hh⟩
  · rw [calOp_of_trusted hm]; trivial
  · rw [calOp_of_no_handshake hm hr]; trivial
  · rw [calOp_refused hh hm hr]; trivial
  · rcases answersOk_or_firstFailure hresp (calActions s.cfg) with hok | ⟨before, a, n, hfail⟩
    · rw [calOp_done hw hh hm hr hok (hrel _)]; trivial
    · rw [calOp_aborted hw hh hm hr hfail (hrel _)]; trivial

theorem logUncal_absorbs (c : Channel) : Act.Absorbs (logUncal c) := fun s hs => by
  rw [logUncal_eq]
  exact ⟨_, rfl, hs⟩

theorem motorPreamble_absorbs (c : Channel) (lazy : Bool) : Act.Absorbs (motorPreamble c lazy) := fun s hs => by
  have hcal : Act.Absorbs fun t => (calOp t).absorb keepGoing :=
    absorbs_absorb (fun _ => calOp_completes) (calOp_keeps answering_opKept) fun _ _ h => h
  by_cases hdue : c = s.cfg.motorCh ∧ calDue lazy s
  · rw [motorPreamble_due hdue.1 hdue.2]
    exact hcal.andThen (logUncal_absorbs c) s hs
  · rw [motorPreamble_quiet fun hc h => hdue ⟨hc, h⟩]
    exact ⟨_, rfl, hs⟩

theorem loggedWrite_absorbs (c : Channel) (d : Duty) : Act.Absorbs (loggedWrite c d) :=
  absorbs_absorb (fun _ hs => writeChannel_completes hs.1 hs.2)
    (writeChannel_keeps answering_opKept.toBusKept c d) fun _ _ h => h

/-- ChannelWrite absorbs a fraction out of range, an aborted CAL and a failed write (43_control_loop.md R238). -/
theorem channelWrite_absorbs (c : Channel) (w : F32) (lazy : Bool) : Act.Absorbs (channelWrite c w lazy) :=
  fun s hs => by
    cases hd : mapDuty (s.cfg.cal.get c) w with
    | none =>
      rw [channelWrite_rejected hd]
      exact ⟨_, rfl, hs⟩
    | some d =>
      rw [channelWrite_mapped hd]
      exact (motorPreamble_absorbs c lazy).andThen (loggedWrite_absorbs c d) s hs

theorem actuate_absorbs : Act.Absorbs actuate := fun s hs => by
  by_cases hvalid : s.snap.valid = 0
  · rw [actuate_invalid hvalid]
    exact ⟨s, rfl, hs⟩
  · rw [actuate_valid hvalid]
    refine absorbs_runSteps (fun a ha => ?_) s hs
    obtain ⟨c, -, rfl⟩ := List.mem_map.1 ha
    exact fun t ht => channelWrite_absorbs c _ true (atChannel c t) ht

/-! ### The tick -/

theorem normalTick_sleeps {s : State} (hs : Answering s) :
    ∃ t, normalTick s = .done () (emit (.delay .tick) t) := by
  obtain ⟨snap, hgot⟩ := responsive_shm hs.2
  rw [normalTick_got hgot]
  exact actuate_absorbs.sleeps (s := snapCopied snap s) ⟨hs.1, responsive_shmTail hs.2⟩

theorem overrideTick_sleeps {s : State} (hs : Answering s) :
    ∃ t, overrideTick s = .done () (emit (.delay .tick) t) :=
  (channelWrite_absorbs s.cfg.motorCh neutralWord false).sleeps hs

theorem tickBody_sleeps {s : State} (hs : Answering s) : ∃ t, tickBody s = .done () (emit (.delay .tick) t) := by
  cases hsensor : s.cfg.sensorConfigured with
  | false =>
    rw [tickBody, if_neg (by simp [hsensor])]
    exact normalTick_sleeps hs
  | true =>
    obtain ⟨r, hr⟩ := responsive_sensor hs.2
    have hsensed : Answering (sensed r s) := ⟨hs.1, responsive_sensorTail hs.2⟩
    have hsense : senseClearance s = .done () (sensed r s) := senseClearance_got hr
    rw [tickBody, if_pos hsensor, hsense, andThen_done]
    split
    · exact overrideTick_sleeps hsensed
    · exact normalTick_sleeps hsensed

/-- A motor channel that is trusted stays so over a tick (42_motor_calibration.md R211). -/
theorem exec_opTick_trusted {s t : State} {h : Handle} (he : exec .opTick s = .next t) (hh : s.handle = some h)
    (hterm : s.term = false) (hm : s.mcs = .done) : t.mcs = .done := by
  have hP : Closed TickUpdate fun u => u.mcs = .done := Closed.view State.mcs _ fun _ _ h => by rw [h.frame]
  have hcal : Act.Keeps (fun u => u.mcs = .done) calOp := fun u hu => by rw [calOp_of_trusted hu]; exact hu
  rw [exec_opTick_open hh hterm] at he
  exact (hP.keeps_tickBody hcal).outcome (s := clearErr s) hm he

/-- Settles O48: each part of the tick before the sleep absorbs its errors, and a tick that does not see TERM leaves
the phase, RUN's mark and the handle alone. -/
theorem tickEndsAndAbsorbsErrors : Obligations.TickEndsAndAbsorbsErrors := by
  intro s h hw hh hterm hresp
  obtain ⟨t, hbody⟩ := tickBody_sleeps (s := clearErr s) ⟨hw, hresp⟩
  have he : exec .opTick s = .next (emit (.delay .tick) t) := by rw [exec_opTick_open hh hterm, hbody]; rfl
  have hcontrol := exec_opTick_control he hterm
  simp only [control, Prod.mk.injEq] at hcontrol
  obtain ⟨hphase, hact, hhandle⟩ := hcontrol
  exact ⟨_, he, by simp [emit], hphase, hhandle, hact, exec_opTick_trusted he hh hterm⟩

end Sys2Proof.Machine
end

section
/-! A step while RUN is in progress (43_control_loop.md R230, 60_exceptions.md R284): one tick that does not clear ERR
first. A tick never reads ERR, so it does what a tick issued through CMD does, and where that one leaves ERR clear
nothing was raised (10_state.md R29). -/
namespace Sys2Proof.Machine

/-! ### Actions that commute with an update of the state -/

/-- The same answer in the state updated. -/
def Res.mapState {α : Type} (f : State → State) : Res α → Res α
  | .done x s => .done x (f s)
  | .raised e s => .raised e (f s)
  | .stopped x => .stopped x

/-- The action and the update come to the same in either order. -/
def Commutes {α : Type} (f : State → State) (a : State → Res α) : Prop := ∀ s, a (f s) = (a s).mapState f

section commutes
variable {α β : Type} {f g : State → State} {a b : State → Res α}

theorem commutes_done (x : α) (hg : ∀ s, g (f s) = f (g s)) : Commutes f fun s => Res.done x (g s) :=
  fun s => congrArg (Res.done x) (hg s)

theorem Commutes.comp (ha : Commutes f a) (hg : ∀ s, g (f s) = f (g s)) : Commutes f fun s => a (g s) :=
  fun s => (congrArg a (hg s)).trans (ha (g s))

theorem Commutes.andThen {next : α → State → Res β} (ha : Commutes f a) (hnext : ∀ x, Commutes f (next x)) :
    Commutes f fun s => (a s).andThen next := by
  intro s
  beta_reduce
  rw [ha]
  cases a s with
  | done x t => exact hnext x t
  | raised e t => rfl
  | stopped x => rfl

theorem commutes_runSteps {as : List Act} (h : ∀ a ∈ as, Commutes f a) : Commutes f (runSteps as) := by
  induction as with
  | nil => exact fun _ => rfl
  | cons a rest ih =>
    exact (h a List.mem_cons_self).andThen fun _ => ih fun b hb => h b (List.mem_cons_of_mem a hb)

theorem Commutes.absorb {a : Act} {policy : Raise → State → State} (ha : Commutes f a)
    (hp : ∀ e s, policy e (f s) = f (policy e s)) : Commutes f fun s => (a s).absorb policy := by
  intro s
  beta_reduce
  rw [ha]
  cases a s with
  | done x t => rfl
  | raised e t => exact congrArg (Res.done ()) (hp e t)
  | stopped x => rfl

/-- An action that depends on something read from the state, which the update leaves alone. -/
theorem Commutes.reading {γ : Type} {c : γ → State → Res α} (p : State → γ) (hp : ∀ s, p (f s) = p s)
    (hc : ∀ x, Commutes f (c x)) : Commutes f fun s => c (p s) s :=
  fun s => (congrArg (fun x => c x (f s)) (hp s)).trans (hc (p s) s)

theorem Commutes.ite {p : State → Prop} [∀ s, Decidable (p s)] (ha : Commutes f a) (hb : Commutes f b)
    (hp : ∀ s, p (f s) ↔ p s) : Commutes f fun s => if p s then a s else b s := by
  intro s
  beta_reduce
  by_cases h : p s
  · rw [if_pos ((hp s).2 h), if_pos h, ha]
  · rw [if_neg (mt (hp s).1 h), if_neg h, hb]

theorem commutes_needHandle {a : Act} (ha : Commutes f a) (hrefuse : Commutes f (refuseNoHandle : Act))
    (hh : ∀ s, (f s).handle = s.handle) : Commutes f (needHandle a) := fun s => by
  cases h : s.handle with
  | none => rw [needHandle_none _ _ h, needHandle_none _ _ ((hh s).trans h), hrefuse]
  | some x => rw [needHandle_some _ _ x h, needHandle_some _ _ x ((hh s).trans h), ha]

end commutes

/-! ### ERR as it stood before, shown where nothing was raised since -/

theorem errKept_of_raised {s₀ s : State} (h : s.err.code ≠ 0) : errKept s₀ s = s := by
  rw [errKept, if_neg h]

theorem errKept_eq_withErrIdx (s₀ s : State) : errKept s₀ s = withErrIdx (errKept s₀ s).err s.seq.idx s := rfl

theorem errKept_clearErr (s : State) : errKept s (clearErr s) = s := rfl

/-- An action that writes ERR exactly where it raises leaves ERR as it stood, or shows what it raised. -/
theorem ErrByRaise.commutes {α : Type} {a : State → Res α} (ha : ErrByRaise a) (s₀ : State) :
    Commutes (errKept s₀) a := fun s => by
  rw [errKept_eq_withErrIdx, ha.blind]
  cases hr : a s with
  | done x t =>
    obtain ⟨herr, hidx⟩ := ha.of_done hr
    simp only [Res.withErrIdx, Res.mapState, errKept, withErrIdx, ← herr, ← hidx]
  | raised e t =>
    obtain ⟨herr, hidx⟩ := ha.of_raised hr
    have hcode : t.err.code ≠ 0 := by rw [herr]; exact (errCode_bounds e.kind).2
    rw [Res.withErrIdx, Res.mapState, errKept_of_raised hcode, ← hidx, withErrIdx_self]
  | stopped x => rfl

/-! ### The tick -/

section tick
variable {s₀ : State}

theorem calOp_absorb_commutes : Commutes (errKept s₀) fun s => (calOp s).absorb keepGoing :=
  (errByRaise_calOp.commutes s₀).absorb fun _ _ => rfl

theorem logUncal_commutes (c : Channel) : Commutes (errKept s₀) (logUncal c) := fun s => by
  rw [logUncal_eq, logUncal_eq]
  rfl

theorem motorPreamble_commutes (c : Channel) (lazy : Bool) : Commutes (errKept s₀) (motorPreamble c lazy) :=
  have hquiet : Commutes (errKept s₀) fun s => Res.done () s := fun _ => rfl
  have hlazy : Commutes (errKept s₀) (lazyCal lazy) := calOp_absorb_commutes.ite hquiet fun _ => Iff.rfl
  (hlazy.andThen fun _ => logUncal_commutes c).ite hquiet fun _ => Iff.rfl

theorem loggedWrite_commutes (c : Channel) (d : Duty) : Commutes (errKept s₀) (loggedWrite c d) :=
  ((errByRaise_writeChannel c d).commutes s₀).absorb fun _ _ => rfl

/-- A fraction out of range shows in ERR whatever stood there (43_control_loop.md R238). -/
theorem channelWrite_commutes (c : Channel) (w : F32) (lazy : Bool) :
    Commutes (errKept s₀) (channelWrite c w lazy) := fun s => by
  cases hd : mapDuty (s.cfg.cal.get c) w with
  | none =>
    rw [channelWrite_rejected hd, channelWrite_rejected (by exact hd)]
    rfl
  | some d =>
    rw [channelWrite_mapped hd, channelWrite_mapped (by exact hd)]
    exact (motorPreamble_commutes c lazy).andThen (fun _ => loggedWrite_commutes c d) s

theorem actuateChannel_commutes (c : Channel) : Commutes (errKept s₀) (actuateChannel c) :=
  .reading (c := fun snap s => channelWrite c (commandedFraction snap c) true (atChannel c s)) State.snap
    (fun _ => rfl) fun _ => (channelWrite_commutes c _ true).comp fun _ => rfl

theorem actuate_commutes : Commutes (errKept s₀) actuate := by
  refine (commutes_runSteps fun a ha => ?_).ite (fun _ => rfl) fun _ => Iff.rfl
  obtain ⟨c, -, rfl⟩ := List.mem_map.1 ha
  exact actuateChannel_commutes c

theorem copySnapshot_commutes : Commutes (errKept s₀) copySnapshot := fun s => by
  cases h : s.env.shm.head with
  | hang => simp [copySnapshot, errKept, h, Res.mapState]
  | got snap =>
    rw [copySnapshot_got h, copySnapshot_got (by exact h)]
    rfl

theorem senseClearance_commutes : Commutes (errKept s₀) senseClearance := fun s => by
  cases h : s.env.sensor.head with
  | hang => simp [senseClearance, errKept, h, Res.mapState]
  | got r =>
    rw [senseClearance_got h, senseClearance_got (by exact h)]
    rfl

theorem delay_commutes (w : Wait) : Commutes (errKept s₀) (delay w) := fun _ => rfl

theorem normalTick_commutes : Commutes (errKept s₀) normalTick := by
  refine commutes_runSteps fun a ha => ?_
  simp only [List.mem_cons, List.not_mem_nil, or_false] at ha
  rcases ha with rfl | rfl | rfl
  · exact copySnapshot_commutes
  · exact actuate_commutes
  · exact delay_commutes .tick

theorem overrideTick_commutes : Commutes (errKept s₀) overrideTick := by
  refine .reading (c := fun m => runSteps [channelWrite m neutralWord false, delay .tick])
    (fun s => s.cfg.motorCh) (fun _ => rfl) fun m => commutes_runSteps fun a ha => ?_
  simp only [List.mem_cons, List.not_mem_nil, or_false] at ha
  rcases ha with rfl | rfl
  · exact channelWrite_commutes m neutralWord false
  · exact delay_commutes .tick

theorem tickBody_commutes : Commutes (errKept s₀) tickBody :=
  (senseClearance_commutes.andThen fun _ =>
    overrideTick_commutes.ite normalTick_commutes fun _ => Iff.rfl).ite normalTick_commutes fun _ => Iff.rfl

theorem shutdownReset_commutes : Commutes (errKept s₀) shutdownReset := fun s => by
  cases hh : s.handle with
  | none =>
    rw [shutdownReset_closed hh, shutdownReset_closed (by exact hh)]
    rfl
  | some h =>
    have hopen : s.handle.isSome = true := by rw [hh]; rfl
    have hreset := (errByRaise_resetOp.commutes s₀).absorb (policy := logResetFail) fun _ _ => rfl
    rw [shutdownReset_open hopen, shutdownReset_open (by exact hopen)]
    exact hreset.andThen (fun _ => commutes_done (g := fun t => { busClose t with handle := none }) () fun _ => rfl) s

theorem shutdownOp_commutes : Commutes (errKept s₀) shutdownOp :=
  (shutdownReset_commutes.comp (g := setPhase .shuttingDown) fun _ => rfl).andThen fun _ =>
    (errByRaise_releaseHeldLines.commutes s₀).andThen fun _ => commutes_done (g := exitRun 0) () fun _ => rfl

theorem tickOp_commutes : Commutes (errKept s₀) tickOp :=
  commutes_needHandle (shutdownOp_commutes.ite tickBody_commutes fun _ => Iff.rfl)
    ((errByRaise_raise .busTransfer _ fun _ _ _ => rfl).commutes s₀) fun _ => rfl

end tick

theorem exec_opTick (s : State) : exec .opTick s = (tickOp (clearErr s)).outcome := rfl

/-- A tick of the loop is a tick issued through CMD with ERR as it stood shown where nothing was raised
(10_state.md R29). -/
theorem loopTick_eq (s : State) : loopTick s = ((tickOp (clearErr s)).mapState (errKept s)).outcome :=
  congrArg Res.outcome (tickOp_commutes (s₀ := s) (clearErr s))

section loop
variable {s u : State} {f : Fault}

theorem loopTick_of_next (h : exec .opTick s = .next u) : loopTick s = .next (errKept s u) := by
  rw [loopTick_eq]
  rcases outcome_next h with hdone | ⟨e, hraised⟩
  · rw [hdone]; rfl
  · rw [hraised]; rfl

theorem loopTick_of_fault (h : exec .opTick s = .fault f) : loopTick s = .fault f := by
  rw [exec_opTick] at h
  rw [loopTick_eq]
  cases hr : tickOp (clearErr s) with
  | stopped x =>
    rw [hr] at h
    exact h
  | _ =>
    rw [hr] at h
    cases h

/-- While RUN is in progress a step is one tick of its loop, whatever the host does but a block reset
(60_exceptions.md R284, log 22). -/
theorem step_of_runActive (hw : s.cfg.wf = true) (hrun : s.runActive = true)
    (hreset : nextAction s ≠ .blockReset) : step s = loopTick (takeInput s) := by
  have harb : arbitrate (nextAction s) (takeInput s) = .tick (takeInput s) := by
    cases ha : nextAction s with
    | blockReset => exact absurd ha hreset
    | _ => exact if_pos hrun
  simp [step, hw, harb]

end loop

/-- Settles O12: the step is a tick of the loop, which differs from one issued through CMD in the ERR it begins
with. -/
theorem runInProgressOnlyTicks : Obligations.RunInProgressOnlyTicks := by
  intro s hw hrun hreset
  rw [step_of_runActive hw hrun hreset]
  exact ⟨fun u h => loopTick_of_next h, fun f h => loopTick_of_fault h⟩

end Sys2Proof.Machine
end

section
/-! The block reset and the state it gives (70_reset_and_hazards.md R310, R311), and the write of PRESCALE that
R322 shuts out. -/
namespace Sys2Proof.Machine

/-! ### The block reset -/

/-- The turn of a block reset is the same in every phase (70_reset_and_hazards.md R310). -/
theorem arbitrate_blockReset (s : State) : arbitrate .blockReset s = .settle (blockReset s) := rfl

/-- A step that takes a block reset ends in the reset state: the configuration, the chip and the answers to come
as they were, the inputs after this one still to come (70_reset_and_hazards.md R311, log 13, log 23). -/
theorem step_of_blockReset {s : State} {t : Bool} {rest : List Input} (hw : s.cfg.wf = true)
    (hin : s.inbox = ⟨t, .blockReset⟩ :: rest) :
    step s = .next (State.resetWith s.cfg s.chip s.env rest) := by
  have htaken : blockReset (takeInput s) = State.resetWith s.cfg s.chip s.env rest :=
    congrArg (State.resetWith s.cfg s.chip s.env) (congrArg List.tail hin)
  refine step_of_settle hw ?_
  rw [nextAction_of_inbox hin, arbitrate_blockReset, htaken]

/-- Settles O6: the step ends in the reset state, whose fields are R311's. -/
theorem blockResetGivesResetState : Obligations.BlockResetGivesResetState := by
  intro s t rest hw hin
  refine ⟨_, step_of_blockReset hw hin, ?_⟩
  simp [State.resetWith, motorTrusted]

/-- At its own power-on the chip is in form: none of its registers is known (70_reset_and_hazards.md R312). -/
theorem wf_powerOn : Chip.powerOn.wf = true := rfl

/-- Settles O53: the state after reset is a block reset's, on a chip in form. -/
theorem invariantHoldsAtReset : Obligations.InvariantHoldsAtReset :=
  inv_resetWith Config.initial wf_powerOn Env.initial []

/-! ### PRESCALE on a chip that is awake -/

/-- Settles O16: the WR row is the REGWR of PRESCALE, which an awake chip does not take. -/
theorem prescaleWriteWhileActiveFaults : Obligations.PrescaleWriteWhileActiveFaults := by
  intro s p h hw hh hb hl
  rw [exec_writeRow_open (.prescale p) hh, regWrite_prescale_awake hw hl (busOkFor_one.1 hb)]
  rfl

end Sys2Proof.Machine
end
